-- ==== Sys2Proof/Word.lean ====
section
/-! DEFINITION. Word: the byte, the column number and the clock reading, the plain data every other file speaks of. -/

namespace Sys2Proof

/-- One character of a serial line (R159). -/
abbrev Byte := BitVec 8

/-- A column number, 0 to 11 (00_scope 3.3). -/
abbrev Column := Fin 12

/-- A card number; 0 marks an empty slot and is no card (00_scope 3.3). -/
abbrev CardNumber := BitVec 32

/-- The twelve columns in ascending order. -/
def allColumns : List Column := [0, 1, 2, 3, 4, 5, 6, 7, 8, 9, 10, 11]

end Sys2Proof
end

