-- ==== Sys2Proof/Syntax.lean ====
section
/-! DEFINITION. Syntax: the commands of the part, one constructor for each row of the opcode table. -/

namespace Sys2Proof

/-- The two serial lines (R159). -/
inductive Line where
  | host
  | reader
  deriving DecidableEq, Repr

/-- What ends a frame in reception early, the gap apart (R161). -/
inductive DiscardCause where
  | badLength
  | badEndMark
  | framingError
  deriving DecidableEq, Repr

/-- Which of the four tests of R166 a complete reader frame fails. -/
inductive RejectCause where
  | badCheck
  | badKind
  | badLength
  | badColumn
  deriving DecidableEq, Repr

/-- The two position contacts of a latch (01 1.3). -/
inductive Contact where
  | home
  | released
  deriving DecidableEq, Repr

/-- The four filtered inputs of a column (R3). -/
inductive Input where
  | hatch
  | lift
  | contact (k : Contact)
  deriving DecidableEq, Repr

/-- A command: a frame on a line, an event of a pin or of the time base.

A host request carries the body bytes of a complete frame whose check and end mark are good (R160,
R163; log 4). `closed` is the level of a switch input: true for a closed switch, which means a closed
hatch, a seated container or a made contact (01 1.2). -/
inductive Instr where
  /-- IDENTIFY, kind 0x01 (R168) -/
  | identify (body : List Byte)
  /-- STATUS, kind 0x02 (R168) -/
  | status (body : List Byte)
  /-- RESTART, kind 0x03 (R173) -/
  | restart (body : List Byte)
  /-- SOFT_RESTART: the blocks take the soft restart (R173) -/
  | softRestart
  /-- TIME_SET, kind 0x04: day 2, second of day 3 (R46) -/
  | timeSet (body : List Byte)
  /-- PERIOD_SET, kind 0x05: period 2 (R49) -/
  | periodSet (body : List Byte)
  /-- PROFILE_WRITE, kind 0x06: item settings (R170) -/
  | profileWrite (body : List Byte)
  /-- PROFILE_READ, kind 0x07: selector 1 (R172) -/
  | profileRead (body : List Byte)
  /-- ALERT_FETCH, kind 0x08: count 1 (R156) -/
  | alertFetch (body : List Byte)
  /-- ALERT_FLOOR, kind 0x09: floor 1 (R155) -/
  | alertFloor (body : List Byte)
  /-- TABLE_WRITE, kind 0x10: block 1, declared count 1 (R25) -/
  | tableWrite (body : List Byte)
  /-- TABLE_DATA, kind 0x11: entries of 12 bytes; `more` for end mark 0x0C (R26) -/
  | tableData (more : Bool) (body : List Byte)
  /-- TABLE_VERIFY, kind 0x12: block 1, declared count 1 (R34) -/
  | tableVerify (body : List Byte)
  /-- TABLE_ERASE, kind 0x13: first block 1, last block 1 (R31) -/
  | tableErase (body : List Byte)
  /-- TABLE_SUM, kind 0x14: first block 1, last block 1 (R33) -/
  | tableSum (body : List Byte)
  /-- TABLE_PIN, kind 0x15: first block 1, last block 1 (R36) -/
  | tablePin (body : List Byte)
  /-- TABLE_RELEASE, kind 0x16 (R38) -/
  | tableRelease (body : List Byte)
  /-- CARD_QUERY, kind 0x17: card number 4 (R39) -/
  | cardQuery (body : List Byte)
  /-- CARD_MODIFY, kind 0x18: card number 4, keep set 1, add set 1 (R40) -/
  | cardModify (body : List Byte)
  /-- COLUMN_READ, kind 0x20: column 1 (R169) -/
  | columnRead (body : List Byte)
  /-- COLUMN_SERVICE, kind 0x21: column 1 (R14) -/
  | columnService (body : List Byte)
  /-- COLUMN_WITHDRAW, kind 0x22: column 1 (R15) -/
  | columnWithdraw (body : List Byte)
  /-- COLUMN_MEASURE, kind 0x23: column 1 (R96) -/
  | columnMeasure (body : List Byte)
  /-- ROUND_OPEN, kind 0x30: round id 2, vehicle id 4, entry count 1, columns (R112) -/
  | roundOpen (body : List Byte)
  /-- ROUND_CLAIM, kind 0x31: column 1 (R117) -/
  | roundClaim (body : List Byte)
  /-- ROUND_SKIP, kind 0x32: column 1 (R129) -/
  | roundSkip (body : List Byte)
  /-- ROUND_KEEP, kind 0x33 (R116) -/
  | roundKeep (body : List Byte)
  /-- ROUND_CLOSE, kind 0x34 (R130) -/
  | roundClose (body : List Byte)
  /-- ROUND_READ, kind 0x35 (R131) -/
  | roundRead (body : List Byte)
  /-- JOURNAL_READ, kind 0x40: count 1, restart flag 1 (R145) -/
  | journalRead (body : List Byte)
  /-- JOURNAL_RELEASE, kind 0x41: count 2 (R146) -/
  | journalRelease (body : List Byte)
  /-- CHECK_ERROR: a complete host frame whose check does not match (R162) -/
  | checkError
  /-- UNKNOWN_KIND: a complete host frame of a kind that is no request kind (R162) -/
  | unknownKind (kind : Byte)
  /-- FRAME_WHILE_REQUEST_IN_HAND: a complete host frame taken while a request is in hand (R162) -/
  | frameWhileRequestInHand
  /-- FRAME_DISCARD: a frame in reception is discarded (R161) -/
  | frameDiscard (line : Line) (cause : DiscardCause)
  /-- INTERBYTE_GAP: more than 50 ms between two bytes of a frame in reception (R161) -/
  | interbyteGap (line : Line)
  /-- REPLY_SENT: the end mark of the reply has been sent on HTX (R162) -/
  | replySent
  /-- TRANSFER_WATCH_EXPIRY (R165) -/
  | transferWatchExpiry
  /-- PRESENT: a valid PRESENT record from a reader head (R59, R166) -/
  | present (column : Column) (card : CardNumber)
  /-- READER_FRAME_REJECTED: a complete reader frame that fails a test of R166 -/
  | readerFrameRejected (cause : RejectCause)
  /-- VERDICT_SENT: the end mark of a VERDICT frame has been sent (R167) -/
  | verdictSent
  /-- FULL_RESET: power-up or the RESET pin held low (00_scope 3.4) -/
  | fullReset
  /-- CLOCK_ADVANCE: 1,000 ms have passed since the last advance (R45) -/
  | clockAdvance
  /-- INPUT_LEVEL_CHANGE: a raw change of an input's level (R3) -/
  | inputLevelChange (column : Column) (input : Input) (closed : Bool)
  /-- HATCH_OPENED: a taken opening of the hatch input (R4) -/
  | hatchOpened (column : Column)
  /-- HATCH_CLOSED: a taken closing of the hatch input (R4) -/
  | hatchClosed (column : Column)
  /-- LIFT_OUT: a taken change of the lift input to OUT (R10) -/
  | liftOut (column : Column)
  /-- LIFT_IN: a taken change of the lift input to SEATED (R11) -/
  | liftIn (column : Column)
  /-- LATCH_CONTACT_CHANGE: a taken change of a latch contact (R7 to R9) -/
  | latchContactChange (column : Column) (contact : Contact) (made : Bool)
  /-- LATCH_TRAVEL_TIMEOUT: the travel timer expires (R7) -/
  | latchTravelTimeout (column : Column)
  /-- GRANT_TIMER_EXPIRY (R72) -/
  | grantTimerExpiry (column : Column)
  /-- OPEN_TIMER_EXPIRY (R73, R79) -/
  | openTimerExpiry (column : Column)
  /-- LATCH_REST_EXPIRY (R71) -/
  | latchRestExpiry (column : Column)
  /-- PING: the ping in hand is fired (R86) -/
  | ping
  /-- ECHO: a rising edge on ECHO at a value of the distance counter, in millimetres (R87) -/
  | echo (counter : Nat)
  /-- NO_ECHO: the distance counter reaches 4,000 (R87) -/
  | noEcho
  /-- SCAN_PAUSE_EXPIRY (R95) -/
  | scanPauseExpiry
  /-- SUPERVISION_TIMER_EXPIRY (R115) -/
  | supervisionTimerExpiry
  /-- SETTLE_TIMER_EXPIRY (R123) -/
  | settleTimerExpiry
  /-- START_MARK: a hunting receiver takes its own direction's start mark (R161) -/
  | startMark (line : Line)
  deriving DecidableEq, Repr

end Sys2Proof
end

