-- ==== Sys2Proof/Decode.lean ====
section
/-! DEFINITION. Decode: the command that a word of the opcode table spells. No row gives bits. -/

namespace Sys2Proof

/-- No row of spec/opcode_table.json gives a command any bits, so no word spells one (log 21). -/
def decodeTableWord (_nbits _w : Nat) : Option Instr := none

end Sys2Proof
end

