-- ==== Sys2Proof/Config.lean ====
section
/-! DEFINITION. Config: what the spec leaves open for good. One free value, uninterpreted. -/

namespace Sys2Proof

/-- Free value (log 18). Which of the events that are due together is taken next, by draw. The rules say
that either of two such events may be taken first (R7, R72, R73, R115), so nothing constrains it. -/
opaque Config.tieOrder : Nat → Nat

end Sys2Proof
end

