-- ==== Sys2Proof/Machine/State.lean ====
section
/-! DEFINITION. State: every piece of state the spec gives the part, block by block, and its value after a full reset. -/

namespace Sys2Proof.Machine

open Sys2Proof

/-! ### Clock (03) -/

/-- A day and second of day, as stamped on events (R47). -/
structure Reading where
  day : BitVec 16
  second : Nat
  deriving DecidableEq, Repr

/-- The clock (03 3.1). `lastAdvance` is the moment from which the next advance is counted (R45). -/
structure Clock where
  day : BitVec 16
  second : Nat
  timeSet : Bool
  lastAdvance : Nat
  deriving DecidableEq, Repr

/-! ### Profile (09 9.7) -/

/-- The per-column profile items 0x20 to 0x25. -/
structure ColumnProfile where
  enabled : Bool
  fraction : Fin 6
  emptyDistance : Nat
  fullDistance : Nat
  increment : Nat
  quietWindow : Option (Nat × Nat)
  deriving DecidableEq, Repr

/-- The profile: the seventeen global items 0x01 to 0x11 and twelve columns' items. -/
structure Profile where
  rangeLow : Nat
  rangeHigh : Nat
  nearFull : Nat
  full : Nat
  normalInterval : Nat
  nearFullInterval : Nat
  fullInterval : Nat
  scanPause : Nat
  spreadTolerance : Nat
  blanking : Nat
  grantLimit : Nat
  hatchOpenLimit : Nat
  crewOpenLimit : Nat
  travelLimit : Nat
  settleTime : Nat
  keepTime : Nat
  remeasure : Nat
  columns : Vector ColumnProfile 12
  deriving DecidableEq, Repr

/-! ### Column supervisor (01) -/

/-- R1. -/
inductive Condition where
  | disabled
  | inService
  | outOfService
  | absent
  deriving DecidableEq, Repr

/-- R2. -/
inductive Reason where
  | withdrawn
  | latchFault
  | hatchFault
  | forcedHatch
  | unauthorisedLift
  deriving DecidableEq, Repr

/-- 01 1.3. -/
inductive LatchState where
  | home
  | releasing
  | released
  | homing
  deriving DecidableEq, Repr

/-- LDRn_R and LDRn_H, never active together (01 1.3). -/
inductive Drive where
  | towardReleased
  | towardHome
  | off
  deriving DecidableEq, Repr

/-- One filtered input (R3): the level at the pin, the level last held for 20 ms, and the start of a
hold in progress. True is a closed switch. -/
structure Filter where
  pin : Bool
  level : Bool
  hold : Option Nat
  deriving DecidableEq, Repr

/-- The column supervisor's record (01 1.1). `hatchOpen` is the filtered hatch as the rules mean it,
held CLOSED while the hatch is ignored; `hatch.level` is what the filter last held meanwhile (R4). -/
structure Supervisor where
  condition : Condition
  reason : Option Reason
  latch : LatchState
  drive : Drive
  travel : Option Nat
  hatch : Filter
  lift : Filter
  homeContact : Filter
  releasedContact : Filter
  hatchOpen : Bool
  permit : Bool
  deriving DecidableEq, Repr

/-! ### Access controller (04) -/

/-- R57. -/
inductive AccessState where
  | locked
  | releasing
  | awaitOpen
  | open
  | homing
  deriving DecidableEq, Repr

/-- R20. -/
inductive CardClass where
  | resident
  | business
  | crew
  deriving DecidableEq, Repr

/-- The grant context (R58). `remaining` is the figure the charge answered, which waits for the GRANT
verdict (R64, R66, R67; log 16); it is absent for a SERVICE GRANT. -/
structure GrantContext where
  card : CardNumber
  cls : CardClass
  tariff : Fin 16
  fraction : Fin 6
  period : BitVec 16
  provisional : Bool
  service : Bool
  hatchOpened : Bool
  late : Bool
  openStart : Option Nat
  remaining : Option Nat
  deriving DecidableEq, Repr

/-- A column's access machine (04 4.1). A timer is the moment it falls due, absent when stopped. -/
structure Access where
  state : AccessState
  context : Option GrantContext
  grantTimer : Option Nat
  openTimer : Option Nat
  cancelMark : Bool
  drainMark : Bool
  rest : Option Nat
  insertions : BitVec 16
  denials : Nat
  deriving DecidableEq, Repr

/-! ### Ranging engine and fill tracker (05) -/

/-- 05 5.1. -/
inductive Purpose where
  | scan
  | forced
  | emptying
  deriving DecidableEq, Repr

/-- What a ping's slot holds once its window has closed (R87). -/
inductive PingResult where
  | distance (mm : Nat)
  | noEcho
  deriving DecidableEq, Repr

/-- The burst record (05 5.1): `results` are the filled slots in ping order, so the ping in hand is
the one after them (log 17). `window` is the moment the open listening window opened. -/
structure Burst where
  column : Column
  purpose : Purpose
  start : Nat
  window : Option Nat
  results : List PingResult
  blanking : Nat
  deriving DecidableEq, Repr

/-- A last distance with its time (R88). -/
structure LastDistance where
  mm : Nat
  time : Reading
  deriving DecidableEq, Repr

/-- What the engine keeps per column (05 5.1). -/
structure Head where
  skip : Nat
  failures : Nat
  last : Option LastDistance
  deriving DecidableEq, Repr

/-- The ranging engine (05 5.1). -/
structure Ranging where
  burst : Option Burst
  queue : List Column
  pointer : Column
  pause : Option Nat
  rsel : Column
  heads : Vector Head 12
  deriving DecidableEq, Repr

/-- R103. -/
inductive Band where
  | normal
  | nearFull
  | full
  deriving DecidableEq, Repr

/-- What the fill tracker keeps per column (05 5.4). -/
structure Fill where
  estimate : Nat
  band : Band
  since : Nat
  doubtful : Bool
  deriving DecidableEq, Repr

/-! ### Card table (02) -/

/-- The host-loaded fields of an entry (R20). -/
structure HostFields where
  card : CardNumber
  cls : CardClass
  fractions : BitVec 6
  tariff : Fin 16
  allowance : Nat
  blocked : Bool
  restriction : Option (BitVec 12)
  deriving DecidableEq, Repr

/-- A card entry: host-loaded and dynamic fields (R20, R21). -/
structure Entry where
  host : HostFields
  remaining : Nat
  stamp : Option (BitVec 16)
  uses : BitVec 16
  deriving DecidableEq, Repr

/-- A block's used slots, which stand at its start in delivered order (R19), and its pin (R36). -/
structure Block where
  entries : List Entry
  pinned : Bool
  deriving DecidableEq, Repr

/-- The twelve bytes of a TABLE DATA entry, field by field (R175); also the canonical form (R32). -/
structure RawEntry where
  card : BitVec 32
  cls : Byte
  fractions : Byte
  tariff : Byte
  allowance : Byte
  flags : Byte
  restriction : BitVec 16
  spare : Byte
  deriving DecidableEq, Repr

/-- The card table, its staging block and the provisional-access mode (02). -/
structure CardTable where
  blocks : Vector Block 64
  provisional : Bool
  staged : List RawEntry
  deriving DecidableEq, Repr

/-! ### Round controller (06) -/

/-- R109. -/
inductive RoundState where
  | noRound
  | open
  | closed
  | aborted
  deriving DecidableEq, Repr

/-- R110. -/
inductive EntryStatus where
  | pending
  | active
  | done
  deriving DecidableEq, Repr

/-- R110. -/
inductive EntryOutcome where
  | emptied
  | skipped
  | failed
  | aborted
  deriving DecidableEq, Repr

/-- R110. -/
inductive FailReason where
  | latch
  | forcedHatch
  | unauthorisedLift
  | timeout
  deriving DecidableEq, Repr

/-- 06 6.1. -/
inductive Stage where
  | draining
  | permitted
  | lifted
  | settling
  | measuring
  deriving DecidableEq, Repr

/-- A manifest entry (R110). -/
structure ManifestEntry where
  column : Column
  status : EntryStatus
  outcome : Option EntryOutcome
  failReason : Option FailReason
  fillBefore : Option Nat
  fillAfter : Option Nat
  residue : Bool
  deriving DecidableEq, Repr

/-- The supervision timer (R114): counting toward a due moment, or held with a time left in ms. -/
inductive Supervision where
  | counting (due : Nat)
  | held (left : Nat)
  deriving DecidableEq, Repr

/-- The round record (06 6.1). The active entry is the manifest's entry with status ACTIVE. -/
structure Round where
  state : RoundState
  id : Option (BitVec 16)
  vehicle : Option (BitVec 32)
  openTime : Option Reading
  manifest : List ManifestEntry
  stage : Option Stage
  supervision : Supervision
  settleTimer : Option Nat
  liftStart : Option Nat
  deriving DecidableEq, Repr

/-! ### Billing journal (07) -/

/-- R137. -/
structure RecordFlags where
  timeUnset : Bool
  late : Bool
  interrupted : Bool
  provisional : Bool
  residue : Bool
  fillAfterPresent : Bool
  deriving DecidableEq, Repr

/-- The body of a record, by kind (R138). -/
inductive RecordBody where
  | insertion (card : CardNumber) (cls : CardClass) (tariff : Fin 16) (fraction : Fin 6) (fill : Nat)
  | serviceOpen (card : CardNumber) (duration : Nat)
  | emptying (round : BitVec 16) (vehicle : BitVec 32) (outcome : EntryOutcome)
      (fail : Option FailReason) (before : Nat) (after : Option Nat)
  deriving DecidableEq, Repr

/-- A journal record: the header of R136 and its body. -/
structure Record where
  seq : BitVec 32
  column : Column
  time : Reading
  flags : RecordFlags
  period : BitVec 16
  body : RecordBody
  deriving DecidableEq, Repr

/-- The journal (07 7.1), oldest record first. -/
structure Journal where
  records : List Record
  reservations : Nat
  readMark : Nat
  nextSeq : BitVec 32
  highArmed : Bool
  deriving DecidableEq, Repr

/-! ### Alert list (08) -/

/-- The twelve kinds of 08 8.1. -/
inductive AlertKind where
  | unauthorisedLift
  | forcedHatch
  | latchFault
  | hatchFault
  | overfill
  | columnFull
  | rangingFault
  | journalHigh
  | roundAborted
  | transferAbandoned
  | nearFull
  | roundEnded
  deriving DecidableEq, Repr

/-- An alert entry (R150); its level is the kind's. -/
structure AlertEntry where
  kind : AlertKind
  column : Option Column
  count : Nat
  first : Reading
  last : Reading
  deriving DecidableEq, Repr

/-- The alert list (R150), oldest entry first. -/
structure AlertList where
  entries : List AlertEntry
  floor : Nat
  dropped : Nat
  deriving DecidableEq, Repr

/-! ### Lines (09) -/

/-- A reply frame: its kind and body, whose first byte is the status (R162). -/
structure Reply where
  kind : Byte
  body : List Byte
  deriving DecidableEq, Repr

/-- The request in hand with the reply that answers it (R162). A RESTART stays in hand after its
reply's end mark has gone out (`sent`) until the restart is complete (R173). -/
structure InHand where
  reply : Reply
  restart : Bool
  sent : Bool
  deriving DecidableEq, Repr

/-- R164. -/
inductive TransferKind where
  | write
  | verify
  deriving DecidableEq, Repr

/-- The transfer context (R164); `watch` is the moment the transfer watch falls due. -/
structure Transfer where
  kind : TransferKind
  block : Fin 64
  declared : Nat
  delivered : Nat
  watch : Nat
  deriving DecidableEq, Repr

/-- A receiver as its bytes go: those taken of its frame in reception after the start mark, or none
while it hunts (R161). -/
abbrev Receiver := Option (List Byte)

/-- A frame in reception: the bytes taken after its start mark, and the moment of the last byte, from
which the gap is measured (R161). -/
structure Reception where
  bytes : List Byte
  last : Nat
  deriving DecidableEq, Repr

/-- What a line brings to its receiver. -/
inductive Heard where
  /-- A character. -/
  | byte (b : Byte)
  /-- A character whose stop bit is low (R159). -/
  | badStop
  /-- A gap of more than 50 ms, given before the part has counted it (R161; log 2, 4). -/
  | gap
  deriving DecidableEq, Repr

/-- The host link controller (09). -/
structure HostLink where
  frame : Option Reception
  inHand : Option InHand
  transfer : Option Transfer
  linkErrors : Nat
  deriving DecidableEq, Repr

/-- The verdicts of R66. -/
inductive VerdictCode where
  | grant
  | serviceGrant
  | outOfService
  | busy
  | round
  | unknownCard
  | blocked
  | wrongFraction
  | notHere
  | quietHours
  | full
  | quotaSpent
  | journalFull
  | fault
  | lapsed
  | cancelled
  deriving DecidableEq, Repr

/-- A VERDICT record (R67). -/
structure Verdict where
  column : Column
  code : VerdictCode
  remaining : Option Nat
  redirect : Option Column
  deriving DecidableEq, Repr

/-- The reader line controller (R166, R167). -/
structure ReaderLine where
  frame : Option Reception
  waiting : List Verdict
  sending : Option Verdict
  deriving DecidableEq, Repr

/-! ### The part -/

/-- The whole part. `now` is the millisecond time base. `restarted` counts the blocks that have taken a
soft restart in progress (R173; log 9). `arriving` (what the lines still bring, oldest first; log 4),
`pending` (commands waiting, first in first out) and `draws` (log 18) are the model's own. -/
structure State where
  now : Nat
  clock : Clock
  period : BitVec 16
  profile : Profile
  sups : Vector Supervisor 12
  access : Vector Access 12
  ranging : Ranging
  fills : Vector Fill 12
  table : CardTable
  round : Round
  journal : Journal
  alerts : AlertList
  host : HostLink
  reader : ReaderLine
  restarted : Nat
  arriving : List (Line × Heard)
  draws : Nat
  pending : List Instr
  deriving DecidableEq, Repr

/-- The part has no stop: the spec gives every event an effect in every state, so no fault exists. -/
inductive Fault where
  deriving DecidableEq, Repr

/-- Why the model has no meaning for a command. -/
inductive Refusal where
  /-- Raised by an arm of exec whose command has no meaning yet; safe. No arm raises it. -/
  | notModelled (mnemonic : String)
  deriving DecidableEq, Repr

/-! ### After a full reset -/

/-- Defaults of 09 9.7. -/
def ColumnProfile.default : ColumnProfile :=
  { enabled := true, fraction := 0, emptyDistance := 1900, fullDistance := 350, increment := 2,
    quietWindow := none }

/-- Defaults of 09 9.7. -/
def Profile.default : Profile :=
  { rangeLow := 0xF0000000, rangeHigh := 0xFFFFFFFF, nearFull := 150, full := 185,
    normalInterval := 6, nearFullInterval := 2, fullInterval := 1, scanPause := 10,
    spreadTolerance := 40, blanking := 200, grantLimit := 15, hatchOpenLimit := 90,
    crewOpenLimit := 900, travelLimit := 800, settleTime := 20, keepTime := 300, remeasure := 4,
    columns := Vector.replicate 12 ColumnProfile.default }

/-- An input whose pin and filtered level agree. -/
def Filter.steady (closed : Bool) : Filter := { pin := closed, level := closed, hold := none }

/-- A column after R17 with the pins of log 6: hatch closed, container seated, home contact alone made. -/
def Supervisor.reset : Supervisor :=
  { condition := .inService, reason := none, latch := .home, drive := .off, travel := none,
    hatch := .steady true, lift := .steady true, homeContact := .steady true,
    releasedContact := .steady false, hatchOpen := false, permit := false }

/-- R85 with R77: the latch is HOME, so the machine has gone on from HOMING to LOCKED. -/
def Access.reset : Access :=
  { state := .locked, context := none, grantTimer := none, openTimer := none, cancelMark := false,
    drainMark := false, rest := none, insertions := 0, denials := 0 }

/-- R107. -/
def Head.reset : Head := { skip := 0, failures := 0, last := none }

/-- R107: free with no burst. Its first choice is due at once (R91; `Ranging.choiceDue`, log 7). -/
def Ranging.reset : Ranging :=
  { burst := none, queue := [], pointer := 0, pause := none, rsel := 0,
    heads := Vector.replicate 12 Head.reset }

/-- R107. -/
def Fill.reset : Fill := { estimate := 0, band := .normal, since := 0, doubtful := false }

/-- R43. -/
def CardTable.reset : CardTable :=
  { blocks := Vector.replicate 64 { entries := [], pinned := false }, provisional := true,
    staged := [] }

/-- R133. -/
def Round.reset : Round :=
  { state := .noRound, id := none, vehicle := none, openTime := none, manifest := [],
    stage := none, supervision := .held 0, settleTimer := none, liftStart := none }

/-- R148. -/
def Journal.reset : Journal :=
  { records := [], reservations := 0, readMark := 0, nextSeq := 0, highArmed := true }

/-- R157. -/
def AlertList.reset : AlertList := { entries := [], floor := 4, dropped := 0 }

/-- R174. -/
def HostLink.reset : HostLink :=
  { frame := none, inHand := none, transfer := none, linkErrors := 0 }

/-- R174. -/
def ReaderLine.reset : ReaderLine := { frame := none, waiting := [], sending := none }

/-- R56. -/
def Clock.reset : Clock := { day := 0, second := 0, timeSet := false, lastAdvance := 0 }

/-- The part right after a full reset with every hatch closed, every container seated and every latch
home at its pins (log 6). -/
def State.reset : State :=
  { now := 0, clock := .reset, period := 0, profile := .default,
    sups := Vector.replicate 12 .reset, access := Vector.replicate 12 .reset, ranging := .reset,
    fills := Vector.replicate 12 .reset, table := .reset, round := .reset, journal := .reset,
    alerts := .reset, host := .reset, reader := .reset, restarted := 0,
    arriving := [], draws := 0, pending := [] }

end Sys2Proof.Machine
end

