-- ==== Sys2Proof/Machine/Operands.lean ====
section
/-! DEFINITION. Operands: byte order, the operand forms of the requests, the code tables and the layouts of 09 9.9. -/

namespace Sys2Proof.Machine

open Sys2Proof

/-! ### Bytes, most significant first (00_scope 3.3) -/

/-- A number sent in one byte. -/
def byte (n : Nat) : Byte := BitVec.ofNat 8 n

/-- A number sent in `w` bytes, most significant first. -/
def bytes : Nat → Nat → List Byte
  | 0, _ => []
  | w + 1, n => byte (n / 256 ^ w) :: bytes w n

/-- A number received most significant byte first. -/
def number (l : List Byte) : Nat := l.foldl (fun n b => n * 256 + b.toNat) 0

/-- A flag sent in one byte. -/
def flag (b : Bool) : Byte := if b then 1 else 0

/-- Bit `n` of a flags byte or set. -/
def bit (n : Nat) (b : Bool) : Nat := if b then 2 ^ n else 0

/-- An optional number of `w` bytes, zeros when absent (R175). -/
def optional (w : Nat) (n : Option Nat) : List Byte := bytes w (n.getD 0)

/-! ### Operand forms -/

/-- A column number of a request; 12 or more is out of range (01, chapter head). -/
def columnOf (b : Byte) : Option Column := if h : b.toNat < 12 then some ⟨b.toNat, h⟩ else none

/-- A block number; more than 63 is out of range (R25). -/
def blockOf (b : Byte) : Option (Fin 64) := if h : b.toNat < 64 then some ⟨b.toNat, h⟩ else none

/-- A range of blocks: the last is at most 63 and the first at most the last (R31, R33, R36). -/
def goodRange (first last : Byte) : Bool := decide (last.toNat ≤ 63) && decide (first.toNat ≤ last.toNat)

/-- Whether block `b` lies in a range. -/
def inRange (first last : Byte) (b : Fin 64) : Bool :=
  decide (first.toNat ≤ b.val) && decide (b.val ≤ last.toNat)

/-- The entries of a TABLE DATA body, twelve bytes each, in order (R26, R175). -/
def parseEntries : List Byte → List RawEntry
  | c3 :: c2 :: c1 :: c0 :: cls :: fr :: ta :: al :: fl :: r1 :: r0 :: sp :: rest =>
    { card := c3 ++ c2 ++ c1 ++ c0, cls := cls, fractions := fr, tariff := ta, allowance := al,
      flags := fl, restriction := r1 ++ r0, spare := sp } :: parseEntries rest
  | _ => []

/-- The twelve bytes of an entry (R175). -/
def RawEntry.bytes (r : RawEntry) : List Byte :=
  Machine.bytes 4 r.card.toNat ++
    [r.cls, r.fractions, r.tariff, r.allowance, r.flags] ++
    Machine.bytes 2 r.restriction.toNat ++ [r.spare]

/-- The columns of a list of column bytes, if every one is below 12 (R112). -/
def columnsOf : List Byte → Option (List Column)
  | [] => some []
  | b :: bs =>
    match columnOf b, columnsOf bs with
    | some c, some cs => some (c :: cs)
    | _, _ => none

/-! ### Statuses (R163) -/

/-- The statuses of R163. -/
inductive Status where
  | ok
  | checkError
  | unknownKind
  | badLength
  | badValue
  | transferOpen
  | noTransfer
  | badCount
  | pinned
  | duplicate
  | notFound
  | wrongState
  | journalFull
  | noRound
  | notOnRound
  | roundActive
  | entryActive
  | causePersists
  | notEmpty
  deriving DecidableEq, Repr

/-- Status codes of R163. -/
def Status.code : Status → Byte
  | .ok => 0x00
  | .checkError => 0x01
  | .unknownKind => 0x02
  | .badLength => 0x03
  | .badValue => 0x04
  | .transferOpen => 0x05
  | .noTransfer => 0x06
  | .badCount => 0x07
  | .pinned => 0x08
  | .duplicate => 0x09
  | .notFound => 0x0A
  | .wrongState => 0x0B
  | .journalFull => 0x0C
  | .noRound => 0x0D
  | .notOnRound => 0x0E
  | .roundActive => 0x0F
  | .entryActive => 0x10
  | .causePersists => 0x11
  | .notEmpty => 0x12

/-- A reply body: the status first, then the fields its rule names (R162). -/
def answer (st : Status) (fields : List Byte) : List Byte := st.code :: fields

/-! ### State codes (R169) -/

def Condition.code : Condition → Nat
  | .disabled => 0
  | .inService => 1
  | .outOfService => 2
  | .absent => 3

/-- Code of an optional reason, 0 for none (R169). -/
def reasonCode : Option Reason → Nat
  | none => 0
  | some .withdrawn => 1
  | some .latchFault => 2
  | some .hatchFault => 3
  | some .forcedHatch => 4
  | some .unauthorisedLift => 5

def LatchState.code : LatchState → Nat
  | .home => 0
  | .releasing => 1
  | .released => 2
  | .homing => 3

def AccessState.code : AccessState → Nat
  | .locked => 0
  | .releasing => 1
  | .awaitOpen => 2
  | .open => 3
  | .homing => 4

/-- Code of an optional stage, 0 for none (R169). -/
def stageCode : Option Stage → Nat
  | none => 0
  | some .draining => 1
  | some .permitted => 2
  | some .lifted => 3
  | some .settling => 4
  | some .measuring => 5

def Band.code : Band → Nat
  | .normal => 0
  | .nearFull => 1
  | .full => 2

def RoundState.code : RoundState → Nat
  | .noRound => 0
  | .open => 1
  | .closed => 2
  | .aborted => 3

/-- Entry status code of R175. -/
def EntryStatus.code : EntryStatus → Nat
  | .pending => 0
  | .active => 1
  | .done => 2

/-- Outcome code of R110, 0 when absent (R175). -/
def outcomeCode : Option EntryOutcome → Nat
  | none => 0
  | some .emptied => 1
  | some .skipped => 2
  | some .failed => 3
  | some .aborted => 4

/-- Fail reason code of R110, 0 when absent. -/
def failCode : Option FailReason → Nat
  | none => 0
  | some .latch => 1
  | some .forcedHatch => 2
  | some .unauthorisedLift => 3
  | some .timeout => 4

/-- Class code of R20. -/
def CardClass.code : CardClass → Nat
  | .resident => 0
  | .business => 1
  | .crew => 2

/-- The class of a class code, if it is one (R27). -/
def classOf (b : Byte) : Option CardClass :=
  match b.toNat with
  | 0 => some .resident
  | 1 => some .business
  | 2 => some .crew
  | _ => none

/-- Verdict codes of R66. -/
def VerdictCode.code : VerdictCode → Byte
  | .grant => 0x00
  | .serviceGrant => 0x01
  | .outOfService => 0x10
  | .busy => 0x11
  | .round => 0x12
  | .unknownCard => 0x13
  | .blocked => 0x14
  | .wrongFraction => 0x15
  | .notHere => 0x16
  | .quietHours => 0x17
  | .full => 0x18
  | .quotaSpent => 0x19
  | .journalFull => 0x1A
  | .fault => 0x20
  | .lapsed => 0x21
  | .cancelled => 0x22

/-- Alert codes of 08 8.1. -/
def AlertKind.code : AlertKind → Nat
  | .unauthorisedLift => 0x01
  | .forcedHatch => 0x02
  | .latchFault => 0x03
  | .hatchFault => 0x04
  | .overfill => 0x05
  | .columnFull => 0x06
  | .rangingFault => 0x07
  | .journalHigh => 0x08
  | .roundAborted => 0x09
  | .transferAbandoned => 0x0A
  | .nearFull => 0x0B
  | .roundEnded => 0x0C

/-! ### Frames (R160) -/

/-- The check of a frame: length, kind, body and check bytes sum to 0 modulo 256 (R160). -/
def frameCheck (kind : Byte) (body : List Byte) : Byte :=
  0 - (byte (body.length + 1) + kind + body.foldl (· + ·) 0)

/-- A whole frame with a start mark, ended by the final end mark (R160, R175). -/
def frame (start : Byte) (kind : Byte) (body : List Byte) : List Byte :=
  [start, byte (body.length + 1), kind] ++ body ++ [frameCheck kind body, 0x0D]

/-- The bytes of a reply on HTX (R160). -/
def Reply.frame (r : Reply) : List Byte := Machine.frame 0xA2 r.kind r.body

/-- The body of a VERDICT frame: column, code, and remaining or redirect when present (R175). -/
def Verdict.body (v : Verdict) : List Byte :=
  [byte v.column.val, v.code.code] ++
    (v.remaining.map byte).toList ++ (v.redirect.map (fun c => byte c.val)).toList

/-- The bytes of a verdict on RTX (R160, R167). -/
def Verdict.frame (v : Verdict) : List Byte := Machine.frame 0xB2 0x02 v.body

/-! ### Layouts (R175) -/

/-- A clock reading: day 2, second of day 3. -/
def Reading.bytes (t : Reading) : List Byte :=
  Machine.bytes 2 t.day.toNat ++ Machine.bytes 3 t.second

/-- The flags byte of a journal record (R137, R175). -/
def RecordFlags.byte (f : RecordFlags) : Byte :=
  Machine.byte (bit 0 f.timeUnset + bit 1 f.late + bit 2 f.interrupted + bit 3 f.provisional +
    bit 4 f.residue + bit 5 f.fillAfterPresent)

/-- Kind code of a record (07 R134). -/
def RecordBody.kindCode : RecordBody → Nat
  | .insertion _ _ _ _ _ => 1
  | .serviceOpen _ _ => 2
  | .emptying _ _ _ _ _ _ => 3

/-- The body of a record from offset 14 (R175). -/
def RecordBody.bytes : RecordBody → List Byte
  | .insertion card cls tariff fraction fill =>
    Machine.bytes 4 card.toNat ++ [byte cls.code, byte tariff.val, byte fraction.val, byte fill]
  | .serviceOpen card duration => Machine.bytes 4 card.toNat ++ Machine.bytes 2 duration
  | .emptying round vehicle outcome fail before after =>
    Machine.bytes 2 round.toNat ++ Machine.bytes 4 vehicle.toNat ++
      [byte (outcomeCode (some outcome)), byte (failCode fail), byte before] ++
      (after.map byte).toList

/-- A journal record (R175). -/
def Record.bytes (r : Record) : List Byte :=
  Machine.bytes 4 r.seq.toNat ++ [byte r.body.kindCode, byte r.column.val] ++ r.time.bytes ++
    [r.flags.byte] ++ Machine.bytes 2 r.period.toNat ++ r.body.bytes

/-- A record in a JOURNAL READ reply, preceded by its length byte (R138). -/
def Record.delivered (r : Record) : List Byte := byte r.bytes.length :: r.bytes

end Sys2Proof.Machine
end

