-- ==== Sys2Proof/Machine/Flags.lean ====
section
/-! DEFINITION. Flags: what the rules read off the state, with no effect: levels, ranks, bands, quotas, windows, eligibility, outputs. -/

namespace Sys2Proof.Machine

open Sys2Proof

/-! ### Alerts -/

/-- The level of a kind (08 8.1). -/
def AlertKind.level : AlertKind → Nat
  | .unauthorisedLift | .forcedHatch => 7
  | .latchFault | .hatchFault => 6
  | .overfill => 5
  | .columnFull | .rangingFault => 4
  | .journalHigh | .roundAborted => 3
  | .transferAbandoned | .nearFull => 2
  | .roundEnded => 1

/-- ATTN (R154): asserted while an entry's level is at or above the floor. -/
def AlertList.attn (a : AlertList) : Bool := a.entries.any fun e => decide (a.floor ≤ e.kind.level)

/-! ### Column supervisor -/

/-- The rank of a reason, higher for the one that stays (R2). -/
def Reason.rank : Reason → Nat
  | .unauthorisedLift => 5
  | .latchFault => 4
  | .forcedHatch => 3
  | .hatchFault => 2
  | .withdrawn => 1

/-- The reason that stands after a new one is judged by rank (R2). -/
def settleReason (new : Reason) : Option Reason → Reason
  | none => new
  | some old => if old.rank ≤ new.rank then new else old

/-- The alert of a fault's name (R2). -/
def Reason.alert : Reason → Option AlertKind
  | .unauthorisedLift => some .unauthorisedLift
  | .latchFault => some .latchFault
  | .forcedHatch => some .forcedHatch
  | .hatchFault => some .hatchFault
  | .withdrawn => none

/-- The filtered lift shows OUT. -/
def Supervisor.liftOut (p : Supervisor) : Bool := !p.lift.level

/-- The home contact alone is made (01 1.3). -/
def Supervisor.homeAlone (p : Supervisor) : Bool := p.homeContact.level && !p.releasedContact.level

/-- The released contact alone is made (01 1.3). -/
def Supervisor.releasedAlone (p : Supervisor) : Bool := p.releasedContact.level && !p.homeContact.level

/-- Both contacts are made. -/
def Supervisor.bothMade (p : Supervisor) : Bool := p.homeContact.level && p.releasedContact.level

/-- The hatch is ignored while the column is ABSENT and while the filtered lift shows OUT (R4). -/
def Supervisor.hatchIgnored (p : Supervisor) : Bool := decide (p.condition = .absent) || p.liftOut

/-- The latch state the contacts alone show (R8, R9). -/
def Supervisor.latchShown (p : Supervisor) : LatchState :=
  if p.homeAlone then .home else if p.releasedAlone then .released else .homing

/-- LDRn_R and LDRn_H (01 1.3). -/
def Supervisor.driveReleased (p : Supervisor) : Bool := decide (p.drive = .towardReleased)
def Supervisor.driveHome (p : Supervisor) : Bool := decide (p.drive = .towardHome)

/-- An OUT OF SERVICE column with one of these reasons still admits crew (R2, R61). -/
def Reason.admitsCrew : Reason → Bool
  | .withdrawn | .hatchFault | .forcedHatch => true
  | .latchFault | .unauthorisedLift => false

/-! ### Clock and quotas -/

/-- The clock reading handed to a stamp (R47). -/
def Clock.reading (k : Clock) : Reading := { day := k.day, second := k.second }

/-- A column's window as judged by the clock (R48). -/
def inQuietWindow (k : Clock) (w : Option (Nat × Nat)) : Bool :=
  match w with
  | none => false
  | some (start, stop) =>
    let m := k.second / 60
    k.timeSet &&
      (if start < stop then decide (start ≤ m) && decide (m < stop)
       else decide (start ≤ m) || decide (m < stop))

/-- Effective remaining against a period (R51). -/
def Entry.effective (e : Entry) (period : BitVec 16) : Nat :=
  if e.host.allowance = 255 then 255
  else if e.stamp = some period then e.remaining
  else e.host.allowance

/-! ### Card table -/

/-- The flags byte of an entry: blocked and restriction present (R175). -/
def HostFields.flagsByte (h : HostFields) : Byte := byte (bit 0 h.blocked + bit 1 h.restriction.isSome)

/-- The canonical form of a used slot (R32). -/
def HostFields.canonical (h : HostFields) : RawEntry :=
  { card := h.card, cls := byte h.cls.code, fractions := h.fractions.setWidth 8,
    tariff := byte h.tariff.val, allowance := byte h.allowance, flags := h.flagsByte,
    restriction := (h.restriction.getD 0).setWidth 16, spare := 0 }

/-- The canonical form of an empty slot: twelve zero bytes (R32). -/
def RawEntry.zero : RawEntry :=
  { card := 0, cls := 0, fractions := 0, tariff := 0, allowance := 0, flags := 0, restriction := 0,
    spare := 0 }

/-- An entry is valid when none of the conditions of R27 holds. -/
def RawEntry.valid (r : RawEntry) : Bool :=
  decide (r.card ≠ 0) && decide (r.cls.toNat ≤ 2) && decide (r.fractions.toNat < 64) &&
    decide (r.tariff.toNat ≤ 15) && decide (r.flags.toNat < 4) &&
    decide (r.restriction.toNat < 4096) &&
    (r.flags.getLsbD 1 || decide (r.restriction = 0)) && decide (r.spare = 0)

/-- The host-loaded fields a valid entry delivers (R20). -/
def RawEntry.fields (r : RawEntry) : HostFields :=
  { card := r.card, cls := (classOf r.cls).getD .resident, fractions := r.fractions.setWidth 6,
    tariff := Fin.ofNat 16 r.tariff.toNat, allowance := r.allowance.toNat,
    blocked := r.flags.getLsbD 0,
    restriction := if r.flags.getLsbD 1 then some (r.restriction.setWidth 12) else none }

/-- The permission set, coded as the keep and add sets: bits 0 to 5 fractions, bit 6 blocked (R163). -/
def HostFields.permissions (h : HostFields) : BitVec 7 := BitVec.ofBool h.blocked ++ h.fractions

/-- A card may open a column as far as its restriction goes (R62 step 8). -/
def HostFields.admitsColumn (h : HostFields) (c : Column) : Bool :=
  match h.restriction with
  | none => true
  | some set => set.getLsbD c.val

/-! ### Fill and ranging -/

/-- A distance turned into fill with a column's E and F (R98). -/
def convertFill (e f d : Nat) : Nat :=
  if e ≤ d then 0 else if d ≤ f then 200 else 200 * (e - d) / (e - f)

/-- The band after an estimate is written, with hysteresis (R103). -/
def nextBand (n u : Nat) (old : Band) (estimate : Nat) : Band :=
  match old with
  | .full => if n ≤ estimate then .full else .normal
  | .normal | .nearFull =>
    if u ≤ estimate then .full else if n ≤ estimate then .nearFull else .normal

/-- The alert a change of band raises (R104). -/
def bandAlert : Band → Band → Option AlertKind
  | .normal, .nearFull => some .nearFull
  | .normal, .full | .nearFull, .full => some .columnFull
  | _, _ => none

/-- The interval of a band (R94). -/
def Profile.interval (p : Profile) : Band → Nat
  | .normal => p.normalInterval
  | .nearFull => p.nearFullInterval
  | .full => p.fullInterval

/-- The valid distances among a burst's slots, in ping order (R88). -/
def validDistances : List PingResult → List Nat
  | [] => []
  | .distance d :: l => d :: validDistances l
  | .noEcho :: l => validDistances l

/-- The result of a burst (R88). -/
inductive BurstResult where
  | success (mm : Nat)
  | unstable
  | noEcho
  deriving DecidableEq, Repr

/-- The middle value of three. -/
def median (a b c : Nat) : Nat := max (min a b) (min (max a b) c)

/-- The result formed from the three slots and the spread tolerance (R88). -/
def formResult (tolerance : Nat) (results : List PingResult) : BurstResult :=
  match validDistances results with
  | [a, b, c] =>
    if max a (max b c) - min a (min b c) ≤ tolerance then .success (median a b c) else .unstable
  | [a, b] => if max a b - min a b ≤ tolerance then .success (min a b) else .unstable
  | _ => .noEcho

/-- The ping in hand, 1 to 3 (05 5.1). -/
def Burst.pingInHand (b : Burst) : Nat := b.results.length + 1

/-- The free engine has its choice to make: no burst is in progress and no scan pause runs. A choice
always begins a burst or a pause, so this stands only after a reset (R91, R107, R108; log 7). -/
def Ranging.choiceDue (r : Ranging) : Bool := r.burst.isNone && r.pause.isNone

/-! ### Host link -/

/-- The blocks are taking a soft restart: the end mark of the RESTART reply has gone out and the
RESTART is still in hand (R173). -/
def State.restarting (s : State) : Bool := s.host.inHand.any fun h => h.restart && h.sent

/-! ### Round -/

/-- The entry with status ACTIVE (06 6.1). -/
def Round.active (r : Round) : Option ManifestEntry :=
  r.manifest.find? fun e => decide (e.status = .active)

/-- The entry of a column (06 6.1). -/
def Round.entryOf (r : Round) (c : Column) : Option ManifestEntry :=
  r.manifest.find? fun e => decide (e.column = c)

/-- The round has an ACTIVE entry on the column (R60 step 3). -/
def Round.claims (r : Round) (c : Column) : Bool :=
  r.manifest.any fun e => decide (e.column = c) && decide (e.status = .active)

/-- The column stands in the manifest of an OPEN round (R113, R170). -/
def Round.lists (r : Round) (c : Column) : Bool :=
  decide (r.state = .open) && r.manifest.any fun e => decide (e.column = c)

/-- The emptying stage of a column, none without an ACTIVE entry on it (R127). -/
def Round.stageOf (r : Round) (c : Column) : Option Stage := if r.claims c then r.stage else none

/-- The active entry stands on the column, in a stage. -/
def Round.inStage (r : Round) (c : Column) (st : Stage) : Bool :=
  r.claims c && decide (r.stage = some st)

/-- The time left of the supervision timer, in milliseconds (R114). -/
def Round.timeLeft (r : Round) (now : Nat) : Nat :=
  match r.supervision with
  | .counting due => due - now
  | .held left => left

/-- The condition of R114 under which the supervision timer counts. -/
def Round.shouldCount (r : Round) : Bool :=
  decide (r.state = .open) &&
    (r.active.isNone || decide (r.stage = some .draining) || decide (r.stage = some .permitted))

/-! ### Outputs of the part -/

/-- PRMn (R12). -/
def State.prm (s : State) (c : Column) : Bool := s.sups[c].permit

/-- RDIR, driven only while a verdict is being sent (R159). -/
def State.rdir (s : State) : Bool := s.reader.sending.isSome

/-- The bytes of the reply going out on HTX, if one is (R162). -/
def State.htx (s : State) : Option (List Byte) :=
  s.host.inHand.bind fun h => if h.sent then none else some h.reply.frame

/-- The bytes of the verdict going out on RTX, if one is (R167). -/
def State.rtx (s : State) : Option (List Byte) := s.reader.sending.map Verdict.frame

end Sys2Proof.Machine
end

