-- ==== Sys2Proof/Machine/Ops.lean ====
section
/-! DEFINITION. Ops: the shared operations every block uses: column updates, the time base, alerts, the journal, the host link's one request, the reader line's verdicts. -/

namespace Sys2Proof.Machine

open Sys2Proof

/-! ### Updates of one column's record -/

def State.modSup (s : State) (c : Column) (f : Supervisor → Supervisor) : State :=
  { s with sups := s.sups.set c (f s.sups[c]) }

def State.modAccess (s : State) (c : Column) (f : Access → Access) : State :=
  { s with access := s.access.set c (f s.access[c]) }

def State.modFill (s : State) (c : Column) (f : Fill → Fill) : State :=
  { s with fills := s.fills.set c (f s.fills[c]) }

def Ranging.modHead (r : Ranging) (c : Column) (f : Head → Head) : Ranging :=
  { r with heads := r.heads.set c (f r.heads[c]) }

def State.modHead (s : State) (c : Column) (f : Head → Head) : State :=
  { s with ranging := s.ranging.modHead c f }

/-! ### The time base (R45, R47; log 1, 2) -/

/-- The time base stands at least at a moment: an event of the time base has come to its moment (log 2). -/
def reach (t : Nat) (s : State) : State := { s with now := max s.now t }

/-- Seconds as milliseconds. -/
def seconds (n : Nat) : Nat := n * 1000

/-! ### Alert list (R151, R152) -/

/-- An entry has a raising's kind and column (R151). -/
def AlertEntry.matches (kind : AlertKind) (column : Option Column) (e : AlertEntry) : Bool :=
  decide (e.kind = kind) && decide (e.column = column)

/-- A raising coalesced into its entry (R151). -/
def AlertEntry.coalesce (t : Reading) (e : AlertEntry) : AlertEntry :=
  { e with count := min 255 (e.count + 1), last := t }

/-- The lowest level present in a list of entries; 8 when there is none. -/
def lowestLevel (l : List AlertEntry) : Nat := l.foldr (fun e m => min e.kind.level m) 8

/-- A raising at the list: coalesced (R151), or appended, displacing or dropped (R152). -/
def AlertList.raise (kind : AlertKind) (column : Option Column) (t : Reading) (a : AlertList) :
    AlertList :=
  let new : AlertEntry := { kind := kind, column := column, count := 1, first := t, last := t }
  if a.entries.any (AlertEntry.matches kind column) then
    { a with entries := a.entries.map fun e =>
        if e.matches kind column then e.coalesce t else e }
  else if a.entries.length < 32 then { a with entries := a.entries ++ [new] }
  else
    let low := lowestLevel a.entries
    if low < kind.level then
      { a with entries := a.entries.eraseP (fun e => decide (e.kind.level = low)) ++ [new] }
    else { a with dropped := min 255 (a.dropped + 1) }

/-- A block raises an alert, stamped with the clock reading of the event (R47). -/
def raiseAlert (kind : AlertKind) (column : Option Column) (s : State) : State :=
  { s with alerts := s.alerts.raise kind column s.clock.reading }

/-- An alert raised if there is one to raise. -/
def raiseIf (kind : Option AlertKind) (column : Option Column) (s : State) : State :=
  match kind with
  | none => s
  | some k => raiseAlert k column s

/-! ### Billing journal (R140 to R142, R147) -/

/-- Records held. -/
def Journal.held (j : Journal) : Nat := j.records.length

/-- Records plus reservations held. -/
def Journal.sum (j : Journal) : Nat := j.held + j.reservations

/-- `n` reservations taken (R140). -/
def reserve (n : Nat) (s : State) : State :=
  { s with journal := { s.journal with reservations := s.journal.reservations + n } }

/-- A reservation released by its holder (R142). -/
def releaseReservation (s : State) : State :=
  { s with journal := { s.journal with reservations := s.journal.reservations - 1 } }

/-- No flag set; the writer names those that apply (R137). -/
def RecordFlags.none : RecordFlags :=
  { timeUnset := false, late := false, interrupted := false, provisional := false, residue := false,
    fillAfterPresent := false }

/-- The record an append makes, with its sequence number and clock stamps (R135, R136). -/
def stampRecord (column : Column) (flags : RecordFlags) (period : BitVec 16) (body : RecordBody)
    (s : State) : Record :=
  { seq := s.journal.nextSeq, column := column, time := s.clock.reading,
    flags := { flags with timeUnset := !s.clock.timeSet }, period := period, body := body }

/-- The journal after a record joins the tail into a reservation (R135, R141); `high` disarms the
high mark (R147). -/
def Journal.append (r : Record) (high : Bool) (j : Journal) : Journal :=
  { records := j.records ++ [r], reservations := j.reservations - 1, readMark := j.readMark,
    nextSeq := j.nextSeq + 1, highArmed := j.highArmed && !high }

/-- An append, with JOURNAL HIGH when it brings the records held to 1,792 (R141, R147). -/
def appendRecord (column : Column) (flags : RecordFlags) (period : BitVec 16) (body : RecordBody)
    (s : State) : State :=
  let high := decide (s.journal.held + 1 = 1792) && s.journal.highArmed
  let s' := { s with journal := s.journal.append (stampRecord column flags period body s) high }
  if high then raiseAlert .journalHigh Option.none s' else s'

/-! ### Host link (R161, R162) -/

/-- One more link error, saturating (R161). -/
def countLinkError (s : State) : State :=
  { s with host := { s.host with linkErrors := min 65535 (s.host.linkErrors + 1) } }

/-- The frame in reception on the host link ends, complete or discarded: the receiver hunts (R161). -/
def hostFrameEnds (s : State) : State := { s with host := { s.host with frame := none } }

/-- The request stays in hand with its reply until the reply's end mark has been sent (R162). The OK
reply of kind 0x83 is a RESTART's (R173). -/
def putInHand (kind : Byte) (body : List Byte) (s : State) : State :=
  let h : InHand :=
    { reply := { kind := kind, body := body },
      restart := decide (kind = 0x83) && decide (body = [0x00]), sent := false }
  { s with host := { s.host with inHand := some h } }

/-- A complete host frame: discarded and counted while a request is in hand, else served in one event
by `act` and answered with a reply of the kind given (R162; log 5). -/
def serve (kind : Byte) (act : State → State × List Byte) (s : State) : State :=
  if s.host.inHand.isSome then countLinkError (hostFrameEnds s)
  else
    let r := act (hostFrameEnds s)
    putInHand kind r.2 r.1

/-- A reply that changes nothing. -/
def refuse (st : Status) (s : State) : State × List Byte := (s, answer st [])

/-- A request without a body (R163). -/
def withNoBody (body : List Byte) (act : State → State × List Byte) (s : State) : State × List Byte :=
  match body with
  | [] => act s
  | _ => refuse .badLength s

/-- A request whose body is one byte (R163). -/
def withByte (body : List Byte) (act : Byte → State → State × List Byte) (s : State) :
    State × List Byte :=
  match body with
  | [b] => act b s
  | _ => refuse .badLength s

/-- A request whose body is two bytes (R163). -/
def withTwoBytes (body : List Byte) (act : Byte → Byte → State → State × List Byte) (s : State) :
    State × List Byte :=
  match body with
  | [a, b] => act a b s
  | _ => refuse .badLength s

/-- A request that names one column; 12 or more is BAD VALUE (01, chapter head; R96, R117, R129, R169). -/
def withColumn (body : List Byte) (act : Column → State → State × List Byte) (s : State) :
    State × List Byte :=
  withByte body (fun b s =>
    match columnOf b with
    | none => refuse .badValue s
    | some c => act c s) s

/-! ### Reader line (R167) -/

/-- The oldest waiting verdict begins when the line is free: the receiver hunts and no verdict is
being sent (R167). -/
def startVerdict (s : State) : State :=
  if s.reader.frame.isSome || s.reader.sending.isSome then s
  else
    match s.reader.waiting with
    | [] => s
    | v :: vs => { s with reader := { s.reader with waiting := vs, sending := some v } }

/-- A verdict handed to the reader line: the seventeenth waiting one is not kept (R167). -/
def handVerdict (v : Verdict) (s : State) : State :=
  startVerdict
    (if s.reader.waiting.length < 16 then
      { s with reader := { s.reader with waiting := s.reader.waiting ++ [v] } }
    else s)

/-- The frame in reception on the reader line ends; a waiting verdict may begin (R161, R167). -/
def readerFrameEnds (s : State) : State :=
  startVerdict { s with reader := { s.reader with frame := none } }

/-- The access controller makes a verdict; every one but GRANT and SERVICE GRANT counts as a denial
when it is made (R66, R68). -/
def sendVerdict (column : Column) (code : VerdictCode) (remaining : Option Nat)
    (redirect : Option Column) (s : State) : State :=
  let s :=
    match code with
    | .grant | .serviceGrant => s
    | _ => s.modAccess column fun a => { a with denials := min 65535 (a.denials + 1) }
  handVerdict { column := column, code := code, remaining := remaining, redirect := redirect } s

end Sys2Proof.Machine
end

