-- ==== Sys2Proof/Machine/RangingOps.lean ====
section
/-! DEFINITION. RangingOps: eligibility, the forced queue, the burst, the choice of the next column and the fill tracker (05). -/

namespace Sys2Proof.Machine

open Sys2Proof

/-! ### Fill tracker (R97 to R104) -/

/-- The band recomputed from the estimate as it stands, with the alert of its change (R103, R104). -/
def recomputeBand (c : Column) (s : State) : State :=
  let f := s.fills[c]
  let band := nextBand s.profile.nearFull s.profile.full f.band f.estimate
  raiseIf (bandAlert f.band band) (some c) (s.modFill c fun f => { f with band := band })

/-- OVERFILL for a measured fill of 200 (R99, R102). -/
def raiseOverfill (c : Column) (fill : Nat) (s : State) : State :=
  if fill = 200 then raiseAlert .overfill (some c) s else s

/-- The fill a distance converts to with the column's E and F as they stand (R98). -/
def fillOf (c : Column) (mm : Nat) (s : State) : Nat :=
  convertFill s.profile.columns[c].emptyDistance s.profile.columns[c].fullDistance mm

/-- A successful measurement at the tracker (R99; R102 acts alike). -/
def trackSuccess (c : Column) (mm : Nat) (s : State) : State :=
  let fill := fillOf c mm s
  raiseOverfill c fill (recomputeBand c
    (s.modFill c fun f => { f with estimate := fill, since := 0, doubtful := false }))

/-- A failed burst at the engine: the count rises, and at 3 the ranging is doubtful (R97; log 23). -/
def countFailure (c : Column) (s : State) : State :=
  let n := min 255 (s.ranging.heads[c].failures + 1)
  let s := s.modHead c fun h => { h with failures := n }
  let s := s.modFill c fun f => { f with doubtful := f.doubtful || decide (3 ≤ n) }
  if n = 3 then raiseAlert .rangingFault (some c) s else s

/-- A failed EMPTYING measurement at the tracker: the container has been tipped (R102). -/
def trackEmptied (c : Column) (s : State) : State :=
  recomputeBand c (s.modFill c fun f => { f with estimate := 0, since := 0 })

/-! ### Eligibility and the forced queue (R90 to R93) -/

/-- R90. -/
def eligible (s : State) (c : Column) : Bool :=
  let p := s.sups[c]
  (decide (p.condition = .inService) || decide (p.condition = .outOfService)) &&
    !p.liftOut && !p.hatchOpen && decide (s.access[c].state = .locked) &&
    (decide (s.round.stageOf c = none) || decide (s.round.stageOf c = some .measuring))

/-- A column joins the forced queue at its tail, at most once (R92). -/
def Ranging.enqueue (c : Column) (r : Ranging) : Ranging :=
  if r.queue.contains c then r else { r with queue := r.queue ++ [c] }

/-- A column is put or moved to the head of the forced queue (R93). -/
def Ranging.front (c : Column) (r : Ranging) : Ranging := { r with queue := c :: r.queue.erase c }

def enqueue (c : Column) (s : State) : State := { s with ranging := s.ranging.enqueue c }

def frontRequest (c : Column) (s : State) : State := { s with ranging := s.ranging.front c }

/-- A completed deposit at the tracker: increment, count, band and perhaps a re-measurement (R101). -/
def trackDeposit (c : Column) (s : State) : State :=
  let s := s.modFill c fun f =>
    { f with estimate := min 200 (f.estimate + s.profile.columns[c].increment),
             since := min 255 (f.since + 1) }
  let s := recomputeBand c s
  if s.profile.remeasure ≤ s.fills[c].since then enqueue c s else s

/-! ### The burst (R86, R89, R94, R95) -/

/-- The scan moves on; from column 11 the cycle ends and the scan pause begins (R94, R95). -/
def advancePointer (s : State) : State :=
  if s.ranging.pointer = 11 then
    { s with ranging := { s.ranging with
        pointer := 0, pause := some (s.now + seconds s.profile.scanPause) } }
  else { s with ranging := { s.ranging with pointer := s.ranging.pointer + 1 } }

/-- A burst begins: RSEL selects the column and the blanking distance is read (R86, R87). -/
def startBurst (c : Column) (p : Purpose) (s : State) : State :=
  let b : Burst :=
    { column := c, purpose := p, start := s.now, window := none, results := [],
      blanking := s.profile.blanking }
  { s with ranging := { s.ranging with burst := some b, rsel := c } }

/-- The burst record is removed; the pointer moves on from a SCAN burst (R88, R89, R94). -/
def endBurst (s : State) : State :=
  match s.ranging.burst with
  | none => s
  | some b =>
    let s := { s with ranging := { s.ranging with burst := none } }
    if b.purpose = .scan then advancePointer s else s

/-- A burst on the column is abandoned without a result, and the column is put back into the queue:
at the front for an EMPTYING burst, else at the tail (R89). -/
def abandonBurst (c : Column) (s : State) : State :=
  match s.ranging.burst with
  | none => s
  | some b =>
    if b.column = c then
      if b.purpose = .emptying then frontRequest c (endBurst s) else enqueue c (endBurst s)
    else s

/-- A disabled column's burst is abandoned and its queue entry removed (R106). -/
def dropColumn (c : Column) (s : State) : State :=
  let s :=
    match s.ranging.burst with
    | none => s
    | some b => if b.column = c then endBurst s else s
  { s with ranging := { s.ranging with queue := s.ranging.queue.erase c } }

/-! ### Choosing the next column (R91, R94) -/

/-- The skip counter lowered by one, for an eligible column that is passed (R94). -/
def lowerSkip (c : Column) (s : State) : State := s.modHead c fun h => { h with skip := h.skip - 1 }

/-- The skip counter reloaded: the interval of the band, minus one (R94). -/
def reloadSkip (c : Column) (s : State) : State :=
  s.modHead c fun h => { h with skip := s.profile.interval s.fills[c].band - 1 }

/-- The scan steps on from the pointer until it measures a column or the pause begins; at most twelve
steps, since moving on from column 11 begins the pause (R94, R95). -/
def scanWalk : Nat → State → State
  | 0, s => s
  | fuel + 1, s =>
    let c := s.ranging.pointer
    if eligible s c && decide (s.ranging.heads[c].skip = 0) then
      startBurst c .scan (reloadSkip c s)
    else
      let s := advancePointer (if eligible s c then lowerSkip c s else s)
      if s.ranging.pause.isSome then s else scanWalk fuel s

/-- The free engine chooses: the first eligible column of the forced queue, else a scan step unless
the pause runs, else nothing (R91). It is called once, at the end of an event (log 7). -/
def chooseNext (s : State) : State :=
  if s.ranging.burst.isSome then s
  else
    match s.ranging.queue.find? (eligible s) with
    | some c =>
      startBurst c (if s.round.stageOf c = some .measuring then .emptying else .forced)
        { s with ranging := { s.ranging with queue := s.ranging.queue.erase c } }
    | none => if s.ranging.pause.isSome then s else scanWalk 12 s

/-! ### An event of the part (R91, R107; log 7) -/

/-- The state once a choice still due after a reset has been made (R107, R108). -/
def State.ready (s : State) : State := if s.ranging.choiceDue then chooseNext s else s

/-- A command as one event: a choice still due comes before it (log 7). -/
def event (f : State → State) (s : State) : Host.Outcome State Fault Refusal := .next (f s.ready)

end Sys2Proof.Machine
end

