-- ==== Sys2Proof/Machine/SupervisorOps.lean ====
section
/-! DEFINITION. SupervisorOps: faults, the latch, the lift permit and the input filters of a column (01). -/

namespace Sys2Proof.Machine

open Sys2Proof

/-! ### Faults (R2) -/

/-- The column record after a fault of R2's table: its condition and its reason by rank. -/
def Supervisor.fault (r : Reason) (p : Supervisor) : Supervisor :=
  match p.condition with
  | .disabled => p
  | .inService => { p with condition := .outOfService, reason := some r }
  | .outOfService | .absent => { p with reason := some (settleReason r p.reason) }

/-- A fault taken on a column: its alert always raised, its reason settled by rank; a DISABLED column
takes none (R2). -/
def takeFault (c : Column) (r : Reason) (s : State) : State :=
  if s.sups[c].condition = .disabled then s
  else raiseIf r.alert (some c) (s.modSup c (Supervisor.fault r))

/-! ### The latch (R5 to R9) -/

/-- What the supervisor reports of a latch (01 1.8). -/
inductive LatchReport where
  | released
  | home
  | failed
  deriving DecidableEq, Repr

/-- A travel begins and the travel timer starts with the latch travel limit (R5, R6). -/
def startTravel (c : Column) (st : LatchState) (d : Drive) (s : State) : State :=
  s.modSup c fun p =>
    { p with latch := st, drive := d, travel := some (s.now + s.profile.travelLimit) }

/-- The drive is removed and the travel timer stopped. -/
def Supervisor.stopDrive (p : Supervisor) : Supervisor := { p with drive := .off, travel := none }

/-- A latch failure: LATCH FAULT taken, drive OFF, latch state unchanged (R5, R7; log 13). -/
def failLatch (c : Column) (s : State) : State :=
  takeFault c .latchFault (s.modSup c Supervisor.stopDrive)

/-- The release request may start: the latch is HOME (R5). -/
def releaseStarts (c : Column) (s : State) : Bool := decide (s.sups[c].latch = .home)

/-- The release request; where it cannot start it fails at once, and the caller takes the report
LATCH FAILED (R5). -/
def releaseRequest (c : Column) (s : State) : State :=
  if releaseStarts c s then startTravel c .releasing .towardReleased s else failLatch c s

/-- The home request, taken in every latch state (R6). The report HOME of a latch already home is
taken by the caller from the latch state (R77). With both contacts already made the travel starts and goes
on to the next taken contact change or its timer: DESIGN CHOICE (log 32; R7). -/
def homeRequest (c : Column) (s : State) : State :=
  if s.sups[c].homeAlone then
    s.modSup c fun p => { p with latch := .home, drive := .off, travel := none }
  else startTravel c .homing .towardHome s

/-- What a taken contact change does to the latch of a column that is not DISABLED (R7, R8, R9): the
state after it and the report to the access machine. -/
def contactJudged (c : Column) (s : State) : State × Option LatchReport :=
  let p := s.sups[c]
  match p.drive, p.latch with
  | .off, .home =>
    if p.homeAlone then (s, none)
    else (takeFault c .latchFault (s.modSup c fun p => { p with latch := p.latchShown }), none)
  | .off, .released =>
    if p.releasedAlone then (s, none)
    else (takeFault c .latchFault (s.modSup c fun p => { p with latch := p.latchShown }), none)
  | .off, _ =>
    if p.homeAlone then (s.modSup c fun p => { p with latch := .home }, none)
    else if p.releasedAlone then (s.modSup c fun p => { p with latch := .released }, none)
    else if p.bothMade then (takeFault c .latchFault s, none)
    else (s, none)
  | _, st =>
    if p.bothMade then (failLatch c s, some .failed)
    else if decide (st = .releasing) && p.releasedAlone then
      (s.modSup c fun p => { p.stopDrive with latch := .released }, some .released)
    else if decide (st = .homing) && p.homeAlone then
      (s.modSup c fun p => { p.stopDrive with latch := .home }, some .home)
    else (s, none)

/-! ### The lift permit (R12, R13) -/

/-- The supervisor takes an assert request only over a latch that is home and holding (R12). -/
def Supervisor.permitTaken (p : Supervisor) : Bool :=
  decide (p.latch = .home) && decide (p.drive = .off) && p.homeAlone

/-- The permit withdrawn; a column whose lift shows OUT becomes ABSENT with its reason kept (R12, R13). -/
def Supervisor.withdrawPermit (p : Supervisor) : Supervisor :=
  if p.permit then
    { p with permit := false, condition := if p.liftOut then .absent else p.condition }
  else p

/-- A withdraw request (R12). -/
def withdrawPermit (c : Column) (s : State) : State := s.modSup c Supervisor.withdrawPermit

/-! ### Input filters (R3) -/

/-- A raw change of level: a hold starts, or the level has returned and leaves no trace (R3). -/
def Filter.change (closed : Bool) (now : Nat) (f : Filter) : Filter :=
  if f.pin = closed then f
  else { f with pin := closed, hold := if closed = f.level then none else some now }

/-- A level held for 20 ms is taken (R3). -/
def Filter.take (closed : Bool) (_ : Filter) : Filter := Filter.steady closed

/-- The moment at which a hold in progress completes, or now without one (R3; log 2). -/
def Filter.due (now : Nat) (f : Filter) : Nat :=
  match f.hold with
  | none => now
  | some t => t + 20

/-- The filter of an input. -/
def Supervisor.filter (i : Input) (p : Supervisor) : Filter :=
  match i with
  | .hatch => p.hatch
  | .lift => p.lift
  | .contact .home => p.homeContact
  | .contact .released => p.releasedContact

/-- The filter of an input changed. -/
def Supervisor.modFilter (i : Input) (f : Filter → Filter) (p : Supervisor) : Supervisor :=
  match i with
  | .hatch => { p with hatch := f p.hatch }
  | .lift => { p with lift := f p.lift }
  | .contact .home => { p with homeContact := f p.homeContact }
  | .contact .released => { p with releasedContact := f p.releasedContact }

/-- A taken change of an input of a column; the time base stands at the end of its hold. -/
def takeInput (c : Column) (i : Input) (closed : Bool) (s : State) : State :=
  (reach ((s.sups[c].filter i).due s.now) s).modSup c (Supervisor.modFilter i (Filter.take closed))

/-- The hatch becomes ignored: it is held as CLOSED (R4). -/
def Supervisor.ignoreHatch (p : Supervisor) : Supervisor := { p with hatchOpen := false }

/-- The hatch is watched again: the filtered hatch takes the level last held for 20 ms (R4). -/
def Supervisor.readHatch (p : Supervisor) : Supervisor := { p with hatchOpen := !p.hatch.level }

end Sys2Proof.Machine
end

