-- ==== Sys2Proof/Machine/TableOps.lean ====
section
/-! DEFINITION. TableOps: lookup, the dynamic-field operations, commit and comparison of the card table (02, 03 3.4). -/

namespace Sys2Proof.Machine

open Sys2Proof

/-- The used slot that holds a card number, with its block and position; number 0 is never found (R22). -/
def CardTable.find (t : CardTable) (card : CardNumber) : Option (Fin 64 × Nat × Entry) :=
  if card = 0 then none
  else (List.finRange 64).findSome? fun b =>
    match t.blocks[b].entries.findIdx? (fun e => decide (e.host.card = card)) with
    | none => none
    | some i => t.blocks[b].entries[i]?.map fun e => (b, i, e)

/-- A lookup by slot: while provisional access is in force no card has one (R22, R42). -/
def CardTable.lookup (t : CardTable) (card : CardNumber) : Option (Fin 64 × Nat × Entry) :=
  if t.provisional then none else t.find card

/-- One entry rewritten in its slot. -/
def CardTable.setEntry (t : CardTable) (b : Fin 64) (i : Nat) (e : Entry) : CardTable :=
  { t with blocks := t.blocks.set b { t.blocks[b] with entries := t.blocks[b].entries.set i e } }

/-- A block's content changed wherever a test on its number holds. -/
def CardTable.modBlocks (t : CardTable) (p : Fin 64 → Bool) (f : Block → Block) : CardTable :=
  { t with blocks := Vector.ofFn fun b => if p b then f t.blocks[b] else t.blocks[b] }

/-- An entry charged in a period (R52). -/
def Entry.charge (period : BitVec 16) (e : Entry) : Entry :=
  { e with
    remaining := if e.host.allowance = 255 then e.remaining else e.effective period - 1,
    stamp := some period }

/-- What the charge answers: the effective remaining after it (R52). -/
def Entry.chargeAnswer (period : BitVec 16) (e : Entry) : Nat :=
  if e.host.allowance = 255 then 255 else e.effective period - 1

/-- The charge of a grant, with its answer (R23, R52). -/
def CardTable.charge (card : CardNumber) (period : BitVec 16) (t : CardTable) :
    CardTable × Option Nat :=
  match t.lookup card with
  | none => (t, none)
  | some (b, i, e) => (t.setEntry b i (e.charge period), some (e.chargeAnswer period))

/-- An entry refunded: remaining rises by one up to the allowance, never for 255 (R53). -/
def Entry.refund (e : Entry) : Entry :=
  { e with
    remaining := if e.host.allowance = 255 then e.remaining
                 else min (e.remaining + 1) e.host.allowance }

/-- The refund of a grant (R53): dropped unless the card is found, its stamp is the period at grant,
and that period is current. -/
def CardTable.refund (card : CardNumber) (granted current : BitVec 16) (t : CardTable) : CardTable :=
  match t.lookup card with
  | none => t
  | some (b, i, e) =>
    if e.stamp = some granted ∧ granted = current then t.setEntry b i e.refund else t

/-- The use count of an ended opening, wrapping (R21, R23). -/
def CardTable.useCount (card : CardNumber) (t : CardTable) : CardTable :=
  match t.lookup card with
  | none => t
  | some (b, i, e) => t.setEntry b i { e with uses := e.uses + 1 }

/-- A used slot of a block other than `b` holds the number (R27). -/
def CardTable.heldElsewhere (t : CardTable) (b : Fin 64) (card : CardNumber) : Bool :=
  (List.finRange 64).any fun k =>
    decide (k ≠ b) && t.blocks[k].entries.any fun e => decide (e.host.card = card)

/-- The index of the first entry that offends by its card number, the earlier numbers given (R27). -/
def firstDuplicate (t : CardTable) (b : Fin 64) :
    List CardNumber → Nat → List RawEntry → Option Nat
  | _, _, [] => none
  | seen, i, r :: rs =>
    if seen.contains r.card || t.heldElsewhere b r.card then some i
    else firstDuplicate t b (r.card :: seen) (i + 1) rs

/-- A committed entry with its dynamic fields: carried over from the block's old entries when the
number was there, else new (R29). -/
def carryOver (old : List Entry) (r : RawEntry) : Entry :=
  match old.find? (fun e => decide (e.host.card = r.card)) with
  | some e =>
    { host := r.fields, remaining := min e.remaining r.fields.allowance, stamp := e.stamp,
      uses := e.uses }
  | none => { host := r.fields, remaining := r.fields.allowance, stamp := none, uses := 0 }

/-- The refusal of a commit, if one of the checks of R27 applies, with the field it carries. -/
def commitRefusal (t : CardTable) (x : Transfer) : Option (List Byte) :=
  if t.blocks[x.block].pinned then some (answer .pinned [])
  else if x.delivered ≠ x.declared then some (answer .badCount [byte x.delivered])
  else
    match t.staged.findIdx? (fun r => !r.valid) with
    | some i => some (answer .badValue [byte i])
    | none =>
      match firstDuplicate t x.block [] 0 t.staged with
      | some i => some (answer .duplicate [byte i])
      | none => none

/-- The live table after an accepted commit: the block replaced whole, provisional access ended (R28). -/
def CardTable.commit (t : CardTable) (b : Fin 64) : CardTable :=
  { t with
    blocks := t.blocks.set b
      { t.blocks[b] with entries := t.staged.map (carryOver t.blocks[b].entries) },
    provisional := false }

/-- The mismatch count of a comparison: positions delivered that differ from the canonical form of
their slot, plus used slots beyond them (R35). -/
def mismatches : List RawEntry → List Entry → Nat
  | [], live => live.length
  | r :: rs, [] => (if r = RawEntry.zero then 0 else 1) + mismatches rs []
  | r :: rs, e :: es => (if r = e.host.canonical then 0 else 1) + mismatches rs es

/-- The bytes of every canonical form subtracted in turn from 0, modulo 65,536 (R33). -/
def subtractBytes (sum : BitVec 16) (l : List Byte) : BitVec 16 :=
  l.foldl (fun n b => n - b.setWidth 16) sum

/-- The sum over a block; its empty slots contribute nothing (R33). -/
def subtractBlock (sum : BitVec 16) (b : Block) : BitVec 16 :=
  b.entries.foldl (fun n e => subtractBytes n e.host.canonical.bytes) sum

/-- The blocks of a range in order. -/
def CardTable.range (t : CardTable) (first last : Byte) : List Block :=
  ((List.finRange 64).filter (inRange first last)).map fun b => t.blocks[b]

/-- The subtractive sum over a range (R33). -/
def CardTable.sum (t : CardTable) (first last : Byte) : BitVec 16 :=
  (t.range first last).foldl subtractBlock 0

/-- The used slots over a range (R33). -/
def CardTable.used (t : CardTable) (first last : Byte) : Nat :=
  (t.range first last).foldl (fun n b => n + b.entries.length) 0

/-- The transfer context is closed and the staging block emptied (R28, R30, R164). -/
def closeTransfer (s : State) : State :=
  { s with host := { s.host with transfer := none }, table := { s.table with staged := [] } }

end Sys2Proof.Machine
end

