-- ==== Sys2Proof/Machine/AccessOps.lean ====
section
/-! DEFINITION. AccessOps: the decision path and the access machines (04). -/

namespace Sys2Proof.Machine

open Sys2Proof

/-! ### Deciding (R59 to R63) -/

/-- What a lookup for a PRESENT finds (R22, R42). -/
structure Found where
  host : HostFields
  effective : Nat
  provisional : Bool
  deriving DecidableEq, Repr

/-- A provisional crew card (R42). -/
def provisionalFields (card : CardNumber) : HostFields :=
  { card := card, cls := .crew, fractions := 0, tariff := 0, allowance := 0, blocked := false,
    restriction := none }

/-- The lookup of a PRESENT: the service range while provisional access is in force, else the table
(R22, R42). -/
def lookupPresent (card : CardNumber) (s : State) : Option Found :=
  if s.table.provisional then
    if s.profile.rangeLow ≤ card.toNat ∧ card.toNat ≤ s.profile.rangeHigh then
      some { host := provisionalFields card, effective := 0, provisional := true }
    else none
  else (s.table.find card).map fun (_, _, e) =>
    { host := e.host, effective := e.effective s.period, provisional := false }

/-- The decision on a PRESENT. -/
inductive Decision where
  | refuse (code : VerdictCode) (remaining : Option Nat) (redirect : Option Column)
  | grant (found : Found)
  deriving DecidableEq, Repr

/-- Ceiling named by the crew path (R63). -/
def serviceCeiling : Nat := 2036

/-- Ceiling named by the resident and business path (R63). -/
def residentCeiling : Nat := 2016

/-- The column admits a crew card (R61 step 6). -/
def Supervisor.admitsCrew (p : Supervisor) : Bool :=
  match p.condition with
  | .inService => true
  | .outOfService => p.reason.any Reason.admitsCrew
  | .disabled | .absent => false

/-- The column is in its quiet window (R48). -/
def quiet (s : State) (c : Column) : Bool := inQuietWindow s.clock s.profile.columns[c].quietWindow

/-- A column that qualifies as redirect for a card tapped at `c` (R62). -/
def redirectQualifies (s : State) (h : HostFields) (c k : Column) : Bool :=
  decide (k ≠ c) && decide (s.profile.columns[k].fraction = s.profile.columns[c].fraction) &&
    decide (s.sups[k].condition = .inService) && decide (s.access[k].state = .locked) &&
    !s.round.claims k && decide (s.fills[k].band ≠ .full) && h.admitsColumn k && !quiet s k

/-- Of the columns listed, the one with the lowest estimate, and among equals the first (R62). -/
def lowestEstimate (s : State) : List Column → Option Column
  | [] => none
  | c :: cs =>
    match lowestEstimate s cs with
    | none => some c
    | some k => if s.fills[c].estimate ≤ s.fills[k].estimate then some c else some k

/-- The redirect column of a FULL verdict, if one qualifies (R62). -/
def redirect (s : State) (h : HostFields) (c : Column) : Option Column :=
  lowestEstimate s (allColumns.filter (redirectQualifies s h c))

/-- The crew path (R61). -/
def decideCrew (s : State) (c : Column) (f : Found) : Decision :=
  if !s.sups[c].admitsCrew then .refuse .outOfService none none
  else if serviceCeiling ≤ s.journal.sum then .refuse .journalFull none none
  else .grant f

/-- The resident and business path (R62). -/
def decideResident (s : State) (c : Column) (f : Found) : Decision :=
  if s.sups[c].condition ≠ .inService then .refuse .outOfService none none
  else if !f.host.fractions.getLsbD s.profile.columns[c].fraction.val then
    .refuse .wrongFraction none none
  else if !f.host.admitsColumn c then .refuse .notHere none none
  else if quiet s c then .refuse .quietHours none none
  else if s.fills[c].band = .full then .refuse .full none (redirect s f.host c)
  else if f.effective = 0 then .refuse .quotaSpent (some 0) none
  else if residentCeiling ≤ s.journal.sum then .refuse .journalFull none none
  else .grant f

/-- The decision, its checks in the order of R60 to R63. -/
def decidePresent (s : State) (c : Column) (card : CardNumber) : Decision :=
  if s.sups[c].condition = .disabled then .refuse .outOfService none none
  else if s.access[c].state ≠ .locked then .refuse .busy none none
  else if s.round.claims c then .refuse .round none none
  else
    match lookupPresent card s with
    | none => .refuse .unknownCard none none
    | some f =>
      if f.host.blocked then .refuse .blocked none none
      else
        match f.host.cls with
        | .crew => decideCrew s c f
        | .resident | .business => decideResident s c f

/-! ### The end of a cycle -/

/-- The machine enters LOCKED: the context is dropped (R77), and the cancel mark with it (log 12). The
report for a drain mark is `deliverLocked`'s. -/
def arriveLocked (c : Column) (s : State) : State :=
  s.modAccess c fun a => { a with state := .locked, context := none, cancelMark := false }

/-- The machine makes a home request and goes to HOMING, and on to LOCKED in the same event when the
latch is HOME (R77). -/
def goHoming (c : Column) (s : State) : State :=
  let s := (homeRequest c s).modAccess c fun a =>
    { a with state := .homing, grantTimer := none, openTimer := none }
  if s.sups[c].latch = .home then arriveLocked c s else s

/-- The refund of a GRANT's charge; a SERVICE GRANT was not charged (R53). -/
def refundGrant (g : GrantContext) (s : State) : State :=
  if g.service then s else { s with table := s.table.refund g.card g.period s.period }

/-- A grant that ends before its hatch opened: refund and release of the reservation (R53, R142). -/
def undoGrant (c : Column) (s : State) : State :=
  match s.access[c].context with
  | none => s
  | some g => releaseReservation (refundGrant g s)

/-- A grant cut before its hatch opened: its verdict, the refund and release, and the latch homes with
the context kept but ending (R72, R80, R82). -/
def cutGrant (c : Column) (code : VerdictCode) (s : State) : State :=
  goHoming c (undoGrant c (sendVerdict c code none none s))

/-- The fixed latch rest of 5 s (R71). -/
def restTime : Nat := 5000

/-- A release failure (R70). -/
def releaseFailed (c : Column) (s : State) : State :=
  (arriveLocked c (undoGrant c (sendVerdict c .fault none none s))).modAccess c fun a =>
    { a with rest := some (s.now + restTime) }

/-! ### Making a grant (R64) -/

/-- The machine leaves LOCKED: the latch rest stops and the ranging engine abandons a burst on the
column (R57, R71). -/
def leaveLocked (c : Column) (st : AccessState) (s : State) : State :=
  abandonBurst c (s.modAccess c fun a => { a with state := st, rest := none })

/-- The context of a grant (R58). -/
def newContext (c : Column) (card : CardNumber) (f : Found) (remaining : Option Nat) (s : State) :
    GrantContext :=
  { card := card, cls := f.host.cls, tariff := f.host.tariff,
    fraction := s.profile.columns[c].fraction, period := s.period, provisional := f.provisional,
    service := decide (f.host.cls = .crew), hatchOpened := false, late := false, openStart := none,
    remaining := remaining }

/-- A grant, in the order of R64: charge, reservation, context, RELEASING, release request. -/
def makeGrant (c : Column) (card : CardNumber) (f : Found) (s : State) : State :=
  let r := if f.host.cls = .crew then (s.table, none) else s.table.charge card s.period
  let s := reserve 1 { s with table := r.1 }
  let s := s.modAccess c fun a => { a with context := some (newContext c card f r.2 s) }
  let s := leaveLocked c .releasing s
  if releaseStarts c s then releaseRequest c s else releaseFailed c (releaseRequest c s)

/-! ### Reports of the latch (R69, R70, R77, R80) -/

/-- The verdict that waits for the bolt or the hatch: GRANT with its remaining, or SERVICE GRANT (R66). -/
def sendGrantVerdict (c : Column) (s : State) : State :=
  match s.access[c].context with
  | none => s
  | some g =>
    if g.service then sendVerdict c .serviceGrant none none s
    else sendVerdict c .grant g.remaining none s

/-- RELEASED at the machine (R69, R80). -/
def accessReleased (c : Column) (s : State) : State :=
  match s.access[c].state with
  | .releasing =>
    if s.access[c].cancelMark then cutGrant c .cancelled s
    else
      (sendGrantVerdict c s).modAccess c fun a =>
        { a with state := .awaitOpen, grantTimer := some (s.now + seconds s.profile.grantLimit) }
  | .locked | .awaitOpen | .open | .homing => s

/-- HOME at the machine (R77). -/
def accessHome (c : Column) (s : State) : State :=
  match s.access[c].state with
  | .homing => arriveLocked c s
  | .locked | .releasing | .awaitOpen | .open => s

/-- LATCH FAILED at the machine (R70, R77). -/
def accessFailed (c : Column) (s : State) : State :=
  match s.access[c].state with
  | .releasing => releaseFailed c s
  | .homing => arriveLocked c s
  | .locked | .awaitOpen | .open => s

/-- A latch report taken by the machine. -/
def accessReport (c : Column) (r : Option LatchReport) (s : State) : State :=
  match r with
  | none => s
  | some .released => accessReleased c s
  | some .home => accessHome c s
  | some .failed => accessFailed c s

/-! ### The hatch at the machine (R69, R72 to R75, R78, R79) -/

/-- The open timer's limit: crew open limit for a SERVICE GRANT, hatch open limit otherwise (04 4.1). -/
def openLimit (service : Bool) (s : State) : Nat :=
  if service then s.profile.crewOpenLimit else s.profile.hatchOpenLimit

/-- The hatch opens under a grant: flag, open start, OPEN, open timer, cancel mark cleared (R69, R72). -/
def openUnderGrant (c : Column) (s : State) : State :=
  let service := s.access[c].context.any (·.service)
  s.modAccess c fun a =>
    { a with
      state := .open, grantTimer := none, cancelMark := false,
      openTimer := some (s.now + seconds (openLimit service s)),
      context := a.context.map fun g =>
        { g with hatchOpened := true, openStart := some s.now } }

/-- OPEN without a grant context, the open timer with the hatch open limit (R78, R79). -/
def Access.openWithout (due : Nat) (a : Access) : Access :=
  { a with state := .open, context := none, rest := none, openTimer := some due }

/-- The moment the hatch open limit falls due. -/
def hatchDue (s : State) : Nat := s.now + seconds s.profile.hatchOpenLimit

/-- HATCH OPENED at the machine. The supervisor has already taken the forced opening of R8, so in
LOCKED the machine itself asks for the fault only with the latch away from HOME (R78). -/
def accessOpened (c : Column) (s : State) : State :=
  match s.access[c].state with
  | .locked =>
    let s := if s.sups[c].latch = .home then s else takeFault c .forcedHatch s
    abandonBurst c (s.modAccess c (Access.openWithout (hatchDue s)))
  | .releasing => openUnderGrant c (sendGrantVerdict c s)
  | .awaitOpen => openUnderGrant c s
  | .homing =>
    let s := takeFault c .forcedHatch s
    s.modAccess c (Access.openWithout (hatchDue s))
  | .open => s

/-- The flags a grant's record carries (R74, R75, R82, R83). -/
def grantFlags (g : GrantContext) (interrupted : Bool) : RecordFlags :=
  { RecordFlags.none with
    late := g.late, interrupted := interrupted, provisional := g.service && g.provisional }

/-- The open duration in whole seconds, stopping at 65,535 (R75, R76). -/
def openDuration (g : GrantContext) (now : Nat) : Nat :=
  min 65535 ((now - g.openStart.getD now) / 1000)

/-- An INSERTION record appended into the grant's reservation (R74). -/
def appendInsertion (c : Column) (g : GrantContext) (interrupted : Bool) (s : State) : State :=
  appendRecord c (grantFlags g interrupted) g.period
    (.insertion g.card g.cls g.tariff g.fraction s.fills[c].estimate) s

/-- A SERVICE OPEN record appended into the grant's reservation (R75). -/
def appendServiceOpen (c : Column) (g : GrantContext) (interrupted : Bool) (s : State) : State :=
  appendRecord c (grantFlags g interrupted) g.period
    (.serviceOpen g.card (openDuration g s.now)) s

/-- The use count of the card (R23): the number is looked up afresh, and a number that no entry carries
is not counted (R24). DESIGN CHOICE (log 30): a provisional opening that ends after the first commit,
whose list now holds the number, is counted on that entry; R42 and R75 say that a provisional use is
counted on no card. -/
def countUse (g : GrantContext) (s : State) : State :=
  { s with table := s.table.useCount g.card }

/-- The insertion counter, wrapping (R74). -/
def countInsertion (c : Column) (s : State) : State :=
  s.modAccess c fun a => { a with insertions := a.insertions + 1 }

/-- The record of a grant whose hatch had opened, at the end of its opening: a deposit, with the
increment if the container is seated, or a service opening (R74, R75, R82, R83). The provisional flag of
the grant is not read: `countUse` looks the number up afresh, DESIGN CHOICE (log 30). -/
def settleOpened (c : Column) (g : GrantContext) (interrupted increment : Bool) (s : State) : State :=
  if g.service then countUse g (appendServiceOpen c g interrupted s)
  else
    let s := if increment then trackDeposit c s else s
    countInsertion c (countUse g (appendInsertion c g interrupted s))

/-- HATCH CLOSED at the machine (R74, R75, R79). -/
def accessClosed (c : Column) (s : State) : State :=
  match s.access[c].state with
  | .open =>
    match s.access[c].context with
    | none => goHoming c s
    | some g => goHoming c (settleOpened c g false true s)
  | .locked | .releasing | .awaitOpen | .homing => s

/-! ### Drain and unauthorised lift (R80 to R82) -/

/-- A drain request: the mark, and what the access state makes of it (R80). The report of a machine in
LOCKED is `deliverLocked`'s. -/
def drainRequest (c : Column) (s : State) : State :=
  let s := s.modAccess c fun a => { a with drainMark := true }
  match s.access[c].state with
  | .releasing => s.modAccess c fun a => { a with cancelMark := true }
  | .awaitOpen => cutGrant c .cancelled s
  | .locked | .open | .homing => s

/-- An end-drain request (R81). -/
def endDrain (c : Column) (s : State) : State :=
  if s.access[c].drainMark then
    s.modAccess c fun a => { a with drainMark := false, cancelMark := false }
  else s

/-- UNAUTHORISED LIFT at the machine (R82). -/
def accessLifted (c : Column) (s : State) : State :=
  match s.access[c].state with
  | .locked | .homing => s
  | .releasing | .awaitOpen => cutGrant c .lapsed s
  | .open =>
    match s.access[c].context with
    | none => goHoming c s
    | some g =>
      goHoming c ((settleOpened c g true false s).modAccess c fun a => { a with context := none })

end Sys2Proof.Machine
end

