-- ==== Sys2Proof/Machine/RoundOps.lean ====
section
/-! DEFINITION. RoundOps: the supervision timer, the ending of an entry, and what the round controller makes of each report (06). -/

namespace Sys2Proof.Machine

open Sys2Proof

/-! ### Supervision timer (R114) -/

/-- The timer counts or is held as R114 has it, its time left unchanged. -/
def regulate (s : State) : State :=
  let left := s.round.timeLeft s.now
  { s with round := { s.round with
      supervision := if s.round.shouldCount then .counting (s.now + left) else .held left } }

/-- The timer reloaded with the round keep time; a held timer stays held (R114). -/
def reloadSupervision (s : State) : State :=
  let keep := seconds s.profile.keepTime
  { s with round := { s.round with
      supervision := if s.round.shouldCount then .counting (s.now + keep) else .held keep } }

/-- The active entry's stage changed, with the supervision timer held or counting accordingly. -/
def setStage (st : Stage) (s : State) : State :=
  regulate { s with round := { s.round with stage := some st } }

/-! ### Ending an entry (R110, R128) -/

/-- The EMPTYING record of an entry that becomes DONE (R128). -/
def emptyingBody (s : State) (e : ManifestEntry) (outcome : EntryOutcome) (fail : Option FailReason)
    (after : Option Nat) : RecordBody :=
  .emptying (s.round.id.getD 0) (s.round.vehicle.getD 0) outcome fail
    (e.fillBefore.getD s.fills[e.column].estimate) after

/-- The flags of an EMPTYING record (R128, R137). -/
def emptyingFlags (after : Option Nat) (residue : Bool) : RecordFlags :=
  { RecordFlags.none with residue := residue, fillAfterPresent := after.isSome }

/-- An entry made DONE with its outcome (R110). -/
def ManifestEntry.finish (outcome : EntryOutcome) (fail : Option FailReason) (after : Option Nat)
    (residue : Bool) (e : ManifestEntry) : ManifestEntry :=
  { e with status := .done, outcome := some outcome, failReason := fail, fillAfter := after,
           residue := residue }

/-- The manifest with the entry of a column changed. -/
def Round.modEntry (c : Column) (f : ManifestEntry → ManifestEntry) (r : Round) : Round :=
  { r with manifest := r.manifest.map fun e => if e.column = c then f e else e }

/-- The active entry's work ends: stage none, settle timer stopped, lift start removed (R110, R123). -/
def Round.endActive (r : Round) : Round :=
  { r with stage := none, settleTimer := none, liftStart := none }

/-- The entry of a column becomes DONE and its record is appended in the same event (R111, R128). -/
def finishEntry (c : Column) (outcome : EntryOutcome) (fail : Option FailReason)
    (after : Option Nat) (residue : Bool) (s : State) : State :=
  match s.round.entryOf c with
  | none => s
  | some e =>
    let round := s.round.modEntry c (ManifestEntry.finish outcome fail after residue)
    let round := if e.status = .active then round.endActive else round
    appendRecord c (emptyingFlags after residue) s.period (emptyingBody s e outcome fail after)
      { s with round := round }

/-- The entry of a column fails while the round stays OPEN (R114, R120, R125, R126). -/
def failEntry (c : Column) (fail : FailReason) (s : State) : State :=
  reloadSupervision (finishEntry c .failed (some fail) none false s)

/-- The columns whose entries have a status, in manifest order. -/
def Round.columnsWith (p : EntryStatus → Bool) (r : Round) : List Column :=
  (r.manifest.filter fun e => p e.status).map (·.column)

/-- Every entry listed becomes DONE with an outcome, in order (R115, R130, R132). -/
def finishAll (outcome : EntryOutcome) (cs : List Column) (s : State) : State :=
  cs.foldl (fun s c => finishEntry c outcome none none false s) s

/-- The round leaves OPEN: the supervision timer is held with no time left (R114). -/
def leaveOpen (st : RoundState) (s : State) : State :=
  { s with round := { s.round with state := st, supervision := .held 0 } }

/-- The permit of the active entry's column withdrawn (R12). -/
def withdrawActive (s : State) : State :=
  match s.round.active with
  | none => s
  | some e => withdrawPermit e.column s

/-! ### Reports to the round controller -/

/-- The LOCKED report at the round controller (R119, R120): the assert request, and its refusal. -/
def roundLocked (c : Column) (s : State) : State :=
  if s.round.inStage c .draining then
    if s.sups[c].permitTaken then
      setStage .permitted (s.modSup c fun p => { p with permit := true })
    else failEntry c .latch (takeFault c .latchFault s)
  else s

/-- The machine reports LOCKED with the drain mark set, and clears it (R77, R80; log 8). -/
def deliverLocked (c : Column) (s : State) : State :=
  if s.access[c].state = .locked ∧ s.access[c].drainMark = true then
    roundLocked c (s.modAccess c fun a => { a with drainMark := false })
  else s

/-- HATCH OPENED at the round controller (R125). -/
def roundOpened (c : Column) (s : State) : State :=
  if s.round.inStage c .permitted then failEntry c .forcedHatch (withdrawPermit c s) else s

/-- LIFT OUT at the round controller (R121). -/
def roundLiftOut (c : Column) (s : State) : State :=
  if s.round.inStage c .permitted then
    let s := setStage .lifted s
    { s with round := { s.round with liftStart := some s.now } }
  else s

/-- The fixed 5 s that tells a bounce from a lift (R122). -/
def bounceTime : Nat := 5000

/-- LIFT IN at the round controller: a bounce, or the return of an emptied container (R122). -/
def roundLiftIn (c : Column) (s : State) : State :=
  if s.round.inStage c .lifted then
    let elapsed := s.now - s.round.liftStart.getD s.now
    let s := { s with round := { s.round with liftStart := none } }
    if elapsed < bounceTime then setStage .permitted s
    else
      let s := setStage .settling (withdrawPermit c s)
      { s with round := { s.round with
          settleTimer := some (s.now + seconds s.profile.settleTime) } }
  else s

/-- UNAUTHORISED LIFT at the round controller: it fails the column's entry if the column is the active
entry (R10), as R126 has it. PERMITTED and LIFTED have no row in R126, since the permit stands in them but
in the middle of a soft restart; the entry fails there as in the stages that have one (R10; DEDUCED, log
31). -/
def roundLifted (c : Column) (s : State) : State :=
  if s.round.claims c then
    let failed := failEntry c .unauthorisedLift s
    if s.round.stage = some .draining then endDrain c failed else failed
  else s

/-- The outcome of the emptying measurement at the round controller (R124). -/
def roundMeasured (c : Column) (fill : Option Nat) (s : State) : State :=
  if s.round.inStage c .measuring then
    reloadSupervision
      (finishEntry c .emptied none fill (fill.any fun n => decide (s.profile.nearFull ≤ n)) s)
  else s

/-! ### Events that reach several blocks -/

/-- HATCH OPENED reported: the forced opening of R8 is taken before the report reaches the access
machine, the round controller and the ranging engine (R4, R8). -/
def reportOpened (c : Column) (s : State) : State :=
  let s :=
    if s.sups[c].latch = .home ∧ s.access[c].state = .locked then takeFault c .forcedHatch s else s
  deliverLocked c (abandonBurst c (roundOpened c (accessOpened c s)))

/-- HATCH CLOSED reported (R4); the round controller takes no effect from it (R119). -/
def reportClosed (c : Column) (s : State) : State := deliverLocked c (accessClosed c s)

/-- The hatch is watched again after a return or an enabling; an opening found then is reported (R4,
R11, R16). -/
def rereadHatch (c : Column) (s : State) : State :=
  let s := s.modSup c Supervisor.readHatch
  if s.sups[c].condition ≠ .disabled ∧ s.sups[c].hatchOpen = true then reportOpened c s else s

end Sys2Proof.Machine
end

