-- ==== Sys2Proof/Machine/AccessEvents.lean ====
section
/-! DEFINITION. AccessEvents: PRESENT and the timers of the access machines (04). -/

namespace Sys2Proof.Machine

open Sys2Proof

/-- A PRESENT decided: a refusal is sent at once, a grant is made and leaves LOCKED (R59 to R66). -/
def takePresent (c : Column) (card : CardNumber) (s : State) : State :=
  match decidePresent s c card with
  | .refuse code remaining redirect => sendVerdict c code remaining redirect s
  | .grant found => chooseNext (makeGrant c card found s)

/-- PRESENT (R59, R166); not received while a verdict is being sent (R167; log 10), and discarded without
verdict while the blocks are taking a restart (R173). A waiting verdict begins as soon as the PRESENT is
complete (R167; log 11). -/
def execPresent (c : Column) (card : CardNumber) (s : State) : Host.Outcome State Fault Refusal :=
  event (fun s =>
    if s.reader.sending.isSome then s
    else if s.restarting then readerFrameEnds s
    else takePresent c card (readerFrameEnds s)) s

/-- GRANT_TIMER_EXPIRY (R72): the grant lapses; a stopped timer does not expire (log 3). -/
def execGrantTimerExpiry (c : Column) (s : State) : Host.Outcome State Fault Refusal :=
  event (fun s =>
    match s.access[c].grantTimer with
    | none => s
    | some due =>
      if s.access[c].state = .awaitOpen then
        chooseNext (deliverLocked c (cutGrant c .lapsed (reach due s)))
      else s) s

/-- The open timer has run out: it stops, and a grant context is marked late (R73). -/
def Access.outrun (a : Access) : Access :=
  { a with openTimer := none, context := a.context.map fun g => { g with late := true } }

/-- OPEN_TIMER_EXPIRY (R73, R79): the late flag and a HATCH FAULT; a stopped timer does not expire
(log 3). -/
def execOpenTimerExpiry (c : Column) (s : State) : Host.Outcome State Fault Refusal :=
  event (fun s =>
    match s.access[c].openTimer with
    | none => s
    | some due =>
      if s.access[c].state = .open then
        takeFault c .hatchFault ((reach due s).modAccess c Access.outrun)
      else s) s

/-- LATCH_REST_EXPIRY (R71): one home request unless the latch is HOME; a stopped rest does not end
(log 3). -/
def execLatchRestExpiry (c : Column) (s : State) : Host.Outcome State Fault Refusal :=
  event (fun s =>
    match s.access[c].rest with
    | none => s
    | some due =>
      let s := (reach due s).modAccess c fun a => { a with rest := none }
      if s.access[c].state = .locked ∧ s.sups[c].latch ≠ .home then homeRequest c s else s) s

end Sys2Proof.Machine
end

