-- ==== Sys2Proof/Machine/AlertRequests.lean ====
section
/-! DEFINITION. AlertRequests: ALERT_FETCH and ALERT_FLOOR (R155, R156). -/

namespace Sys2Proof.Machine

open Sys2Proof

/-- An alert entry as returned by ALERT FETCH (R175). -/
def AlertEntry.bytes (e : AlertEntry) : List Byte :=
  [byte e.kind.code, (e.column.map fun c => byte c.val).getD 0xFF, byte e.kind.level, byte e.count] ++
    e.first.bytes ++ e.last.bytes

/-- ALERT FETCH (R156). -/
def alertFetch (body : List Byte) (s : State) : State × List Byte :=
  withByte body (fun n s =>
    if n.toNat = 0 ∨ 6 < n.toNat then refuse .badValue s
    else
      let taken := s.alerts.entries.take n.toNat
      let left := s.alerts.entries.drop n.toNat
      ({ s with alerts := { s.alerts with entries := left, dropped := 0 } },
        answer .ok ([byte taken.length, byte left.length, byte s.alerts.dropped] ++
          taken.flatMap AlertEntry.bytes))) s

/-- ALERT_FETCH (R156). -/
def execAlertFetch (body : List Byte) (s : State) : Host.Outcome State Fault Refusal :=
  event (serve 0x88 (alertFetch body)) s

/-- ALERT FLOOR (R155). -/
def alertFloor (body : List Byte) (s : State) : State × List Byte :=
  withByte body (fun n s =>
    if n.toNat = 0 ∨ 8 < n.toNat then refuse .badValue s
    else ({ s with alerts := { s.alerts with floor := n.toNat } }, answer .ok [n])) s

/-- ALERT_FLOOR (R155). -/
def execAlertFloor (body : List Byte) (s : State) : Host.Outcome State Fault Refusal :=
  event (serve 0x89 (alertFloor body)) s

end Sys2Proof.Machine
end

