-- ==== Sys2Proof/Machine/CardRequests.lean ====
section
/-! DEFINITION. CardRequests: the card table's requests and the transfer watch (02, R164, R165). -/

namespace Sys2Proof.Machine

open Sys2Proof

/-- A request refused with TRANSFER OPEN while a transfer context is open (R164). -/
def unlessTransfer (act : State → State × List Byte) (s : State) : State × List Byte :=
  if s.host.transfer.isSome then refuse .transferOpen s else act s

/-- The transfer watch runs 2 s (R164). -/
def watchTime : Nat := 2000

/-- A transfer context opened, the staging block emptied (R25, R34, R164). -/
def openTransfer (kind : TransferKind) (b : Fin 64) (declared : Nat) (s : State) : State :=
  let x : Transfer :=
    { kind := kind, block := b, declared := declared, delivered := 0, watch := s.now + watchTime }
  { s with host := { s.host with transfer := some x }, table := { s.table with staged := [] } }

/-- TABLE WRITE and TABLE VERIFY (R25, R34). -/
def transferRequest (kind : TransferKind) (body : List Byte) (s : State) : State × List Byte :=
  withTwoBytes body (fun b n s =>
    unlessTransfer (fun s =>
      match blockOf b with
      | none => refuse .badValue s
      | some b =>
        if 64 < n.toNat then refuse .badValue s
        else (openTransfer kind b n.toNat s, answer .ok [])) s) s

/-- TABLE_WRITE (R25). -/
def execTableWrite (body : List Byte) (s : State) : Host.Outcome State Fault Refusal :=
  event (serve 0x90 (transferRequest .write body)) s

/-- TABLE_VERIFY (R34). -/
def execTableVerify (body : List Byte) (s : State) : Host.Outcome State Fault Refusal :=
  event (serve 0x92 (transferRequest .verify body)) s

/-- The lengths TABLE DATA allows (R163, R164). -/
def dataLengthGood (more : Bool) (n : Nat) : Bool :=
  decide (n % 12 = 0) && decide (n ≤ 96) && !(more && decide (n = 0))

/-- The entries of an accepted frame appended to the staging block, which holds 64, and counted (R26). -/
def stage (x : Transfer) (entries : List RawEntry) (s : State) : State × Transfer :=
  ({ s with table := { s.table with staged := (s.table.staged ++ entries).take 64 } },
    { x with delivered := min 255 (x.delivered + entries.length) })

/-- A continuing frame: answered with the count delivered, and the watch restarted (R26, R164). -/
def continueTransfer (x : Transfer) (s : State) : State × List Byte :=
  ({ s with host := { s.host with transfer := some { x with watch := s.now + watchTime } } },
    answer .ok [byte x.delivered])

/-- The final frame of a write transfer: the commit and its checks (R27, R28). -/
def finalWrite (x : Transfer) (s : State) : State × List Byte :=
  match commitRefusal s.table x with
  | some reply => (s, reply)
  | none => ({ s with table := s.table.commit x.block }, answer .ok [])

/-- The final frame of a verify transfer: one comparison (R35). -/
def finalVerify (x : Transfer) (s : State) : State × List Byte :=
  if x.delivered ≠ x.declared then (s, answer .badCount [byte x.delivered])
  else (s, answer .ok [byte (mismatches s.table.staged s.table.blocks[x.block].entries)])

/-- TABLE DATA (R26, R164): length, then the context, then the entries; the final frame closes the
context whatever its status. -/
def tableData (more : Bool) (body : List Byte) (s : State) : State × List Byte :=
  if !dataLengthGood more body.length then refuse .badLength s
  else
    match s.host.transfer with
    | none => refuse .noTransfer s
    | some x =>
      let r := stage x (parseEntries body) s
      if more then continueTransfer r.2 r.1
      else
        let f :=
          match x.kind with
          | .write => finalWrite r.2 r.1
          | .verify => finalVerify r.2 r.1
        (closeTransfer f.1, f.2)

/-- TABLE_DATA (R26). -/
def execTableData (more : Bool) (body : List Byte) (s : State) : Host.Outcome State Fault Refusal :=
  event (serve 0x91 (tableData more body)) s

/-- TABLE ERASE (R31). -/
def tableErase (body : List Byte) (s : State) : State × List Byte :=
  withTwoBytes body (fun first last s =>
    unlessTransfer (fun s =>
      if !goodRange first last then refuse .badValue s
      else if (s.table.range first last).any (·.pinned) then refuse .pinned s
      else
        ({ s with table := s.table.modBlocks (inRange first last) fun b => { b with entries := [] } },
          answer .ok [])) s) s

/-- TABLE_ERASE (R31). -/
def execTableErase (body : List Byte) (s : State) : Host.Outcome State Fault Refusal :=
  event (serve 0x93 (tableErase body)) s

/-- TABLE SUM (R33); served while a transfer is open. -/
def tableSum (body : List Byte) (s : State) : State × List Byte :=
  withTwoBytes body (fun first last s =>
    if !goodRange first last then refuse .badValue s
    else
      (s, answer .ok (bytes 2 (s.table.sum first last).toNat ++ bytes 2 (s.table.used first last)))) s

/-- TABLE_SUM (R33). -/
def execTableSum (body : List Byte) (s : State) : Host.Outcome State Fault Refusal :=
  event (serve 0x94 (tableSum body)) s

/-- TABLE PIN (R36). -/
def tablePin (body : List Byte) (s : State) : State × List Byte :=
  withTwoBytes body (fun first last s =>
    unlessTransfer (fun s =>
      if !goodRange first last then refuse .badValue s
      else
        ({ s with table := s.table.modBlocks (inRange first last) fun b => { b with pinned := true } },
          answer .ok [])) s) s

/-- TABLE_PIN (R36). -/
def execTablePin (body : List Byte) (s : State) : Host.Outcome State Fault Refusal :=
  event (serve 0x95 (tablePin body)) s

/-- TABLE RELEASE (R38). -/
def tableRelease (body : List Byte) (s : State) : State × List Byte :=
  withNoBody body (unlessTransfer fun s =>
    if 0 < s.journal.held then refuse .notEmpty s
    else if s.round.state = .open then refuse .roundActive s
    else
      ({ s with table := s.table.modBlocks (fun _ => true) fun b => { b with pinned := false } },
        answer .ok [])) s

/-- TABLE_RELEASE (R38). -/
def execTableRelease (body : List Byte) (s : State) : Host.Outcome State Fault Refusal :=
  event (serve 0x96 (tableRelease body)) s

/-- The fields of an OK reply to CARD QUERY (R39, R175). -/
def queryFields (period : BitVec 16) (b : Fin 64) (i : Nat) (e : Entry) : List Byte :=
  e.host.canonical.bytes ++ [byte e.remaining, flag e.stamp.isSome] ++
    optional 2 (e.stamp.map BitVec.toNat) ++ bytes 2 e.uses.toNat ++
    [byte (e.effective period), byte b.val, byte i]

/-- CARD QUERY (R39). -/
def cardQuery (body : List Byte) (s : State) : State × List Byte :=
  match body with
  | [c3, c2, c1, c0] =>
    let card : CardNumber := c3 ++ c2 ++ c1 ++ c0
    if card = 0 then refuse .badValue s
    else
      match s.table.lookup card with
      | none => refuse .notFound s
      | some (b, i, e) => (s, answer .ok (queryFields s.period b i e))
  | _ => refuse .badLength s

/-- CARD_QUERY (R39). -/
def execCardQuery (body : List Byte) (s : State) : Host.Outcome State Fault Refusal :=
  event (serve 0x97 (cardQuery body)) s

/-- The permission set a keep and an add set make of an old one (R40). -/
def newPermissions (old keep add : BitVec 7) : BitVec 7 := (old &&& keep) ||| add

/-- The permission set with blocked added (R37). -/
def withBlocked (old : BitVec 7) : BitVec 7 := old ||| 0x40

/-- An entry with its permission set replaced; nothing else of it changes (R40). -/
def Entry.setPermissions (p : BitVec 7) (e : Entry) : Entry :=
  { e with host := { e.host with fractions := p.setWidth 6, blocked := p.getLsbD 6 } }

/-- CARD MODIFY (R40). -/
def cardModify (body : List Byte) (s : State) : State × List Byte :=
  match body with
  | [c3, c2, c1, c0, keep, add] =>
    let card : CardNumber := c3 ++ c2 ++ c1 ++ c0
    if card = 0 ∨ keep.getLsbD 7 = true ∨ add.getLsbD 7 = true then refuse .badValue s
    else
      match s.table.lookup card with
      | none => refuse .notFound s
      | some (b, i, e) =>
        let old := e.host.permissions
        let new := newPermissions old (keep.setWidth 7) (add.setWidth 7)
        if s.table.blocks[b].pinned = true ∧ new ≠ old ∧ new ≠ withBlocked old then
          refuse .pinned s
        else
          ({ s with table := s.table.setEntry b i (e.setPermissions new) },
            answer .ok [new.setWidth 8])
  | _ => refuse .badLength s

/-- CARD_MODIFY (R40). -/
def execCardModify (body : List Byte) (s : State) : Host.Outcome State Fault Refusal :=
  event (serve 0x98 (cardModify body)) s

/-- TRANSFER_WATCH_EXPIRY (R165): the transfer is abandoned and TRANSFER ABANDONED raised. -/
def execTransferWatchExpiry (s : State) : Host.Outcome State Fault Refusal :=
  event (fun s =>
    match s.host.transfer with
    | none => s
    | some x => raiseAlert .transferAbandoned none (closeTransfer (reach x.watch s))) s

end Sys2Proof.Machine
end

