-- ==== Sys2Proof/Machine/ClockPeriod.lean ====
section
/-! DEFINITION. ClockPeriod: TIME_SET, PERIOD_SET and the clock's advance (R45, R46, R49). -/

namespace Sys2Proof.Machine

open Sys2Proof

/-- The clock set, its count toward the next advance restarted (R46). -/
def setClock (day : BitVec 16) (second : Nat) (s : State) : State :=
  { s with clock := { day := day, second := second, timeSet := true, lastAdvance := s.now } }

/-- TIME SET (R46); the reply carries the clock as it stood before. -/
def timeSet (body : List Byte) (s : State) : State × List Byte :=
  match body with
  | [d1, d0, s2, s1, s0] =>
    let second := number [s2, s1, s0]
    if 86399 < second then refuse .badValue s
    else
      (setClock (d1 ++ d0) second s,
        answer .ok (s.clock.reading.bytes ++ [flag s.clock.timeSet]))
  | _ => refuse .badLength s

/-- TIME_SET (R46). -/
def execTimeSet (body : List Byte) (s : State) : Host.Outcome State Fault Refusal :=
  event (serve 0x84 (timeSet body)) s

/-- PERIOD SET (R49). -/
def periodSet (body : List Byte) (s : State) : State × List Byte :=
  withTwoBytes body (fun p1 p0 s => ({ s with period := p1 ++ p0 }, answer .ok [p1, p0])) s

/-- PERIOD_SET (R49). -/
def execPeriodSet (body : List Byte) (s : State) : Host.Outcome State Fault Refusal :=
  event (serve 0x85 (periodSet body)) s

/-- The clock one second on: 86,399 goes to 0 of the next day, day 65,535 to day 0 (R45). The count
starts again from the moment of the advance. -/
def Clock.advance (k : Clock) : Clock :=
  { k with
    day := if 86399 ≤ k.second then k.day + 1 else k.day,
    second := if 86399 ≤ k.second then 0 else k.second + 1,
    lastAdvance := k.lastAdvance + 1000 }

/-- CLOCK_ADVANCE (R45): 1,000 ms have passed since the last advance. -/
def execClockAdvance (s : State) : Host.Outcome State Fault Refusal :=
  event (fun s =>
    let s := reach (s.clock.lastAdvance + 1000) s
    { s with clock := s.clock.advance }) s

end Sys2Proof.Machine
end

