-- ==== Sys2Proof/Machine/ColumnRequests.lean ====
section
/-! DEFINITION. ColumnRequests: COLUMN_READ, COLUMN_SERVICE, COLUMN_WITHDRAW and COLUMN_MEASURE (R14, R15, R96, R169). -/

namespace Sys2Proof.Machine

open Sys2Proof

/-- A last distance in COLUMN READ: present flag, distance, day and second; zeros when absent (R169). -/
def lastBytes : Option LastDistance → List Byte
  | none => flag false :: bytes 7 0
  | some l => flag true :: (bytes 2 l.mm ++ l.time.bytes)

/-- The fields of COLUMN READ (R169). -/
def columnFields (s : State) (c : Column) : List Byte :=
  let p := s.sups[c]
  let a := s.access[c]
  let f := s.fills[c]
  let h := s.ranging.heads[c]
  [byte p.condition.code, byte (reasonCode p.reason), byte p.latch.code, flag p.hatchOpen,
    flag p.liftOut, byte a.state.code, byte (stageCode (s.round.stageOf c)), byte f.estimate,
    byte f.band.code, byte f.since, flag f.doubtful] ++
    lastBytes h.last ++ [byte h.failures, byte h.skip] ++
    bytes 2 a.insertions.toNat ++ bytes 2 a.denials

/-- COLUMN READ (R169). -/
def columnRead (body : List Byte) (s : State) : State × List Byte :=
  withColumn body (fun c s => (s, answer .ok (columnFields s c))) s

/-- COLUMN_READ (R169). -/
def execColumnRead (body : List Byte) (s : State) : Host.Outcome State Fault Refusal :=
  event (serve 0xA0 (columnRead body)) s

/-- One of the causes for which COLUMN SERVICE is refused still stands (R14). -/
def causePersists (s : State) (c : Column) : Bool :=
  let p := s.sups[c]
  decide (p.condition = .absent) || p.hatchOpen || decide (p.latch ≠ .home) || s.round.claims c

/-- COLUMN SERVICE (R14). -/
def columnService (body : List Byte) (s : State) : State × List Byte :=
  withColumn body (fun c s =>
    if s.sups[c].condition = .disabled ∨ s.sups[c].condition = .inService then refuse .wrongState s
    else if causePersists s c then refuse .causePersists s
    else
      (chooseNext (enqueue c
          (s.modSup c fun p => { p with condition := .inService, reason := none })),
        answer .ok [])) s

/-- COLUMN_SERVICE (R14). -/
def execColumnService (body : List Byte) (s : State) : Host.Outcome State Fault Refusal :=
  event (serve 0xA1 (columnService body)) s

/-- The column record after an accepted withdrawal (R15). -/
def Supervisor.withdrawColumn (p : Supervisor) : Supervisor :=
  match p.condition with
  | .inService => { p with condition := .outOfService, reason := some .withdrawn }
  | .outOfService => { p with reason := some (settleReason .withdrawn p.reason) }
  | .disabled | .absent => p

/-- COLUMN WITHDRAW (R15). -/
def columnWithdraw (body : List Byte) (s : State) : State × List Byte :=
  withColumn body (fun c s =>
    if s.sups[c].condition = .disabled ∨ s.sups[c].condition = .absent then refuse .wrongState s
    else (s.modSup c Supervisor.withdrawColumn, answer .ok [])) s

/-- COLUMN_WITHDRAW (R15). -/
def execColumnWithdraw (body : List Byte) (s : State) : Host.Outcome State Fault Refusal :=
  event (serve 0xA2 (columnWithdraw body)) s

/-- COLUMN MEASURE (R96). -/
def columnMeasure (body : List Byte) (s : State) : State × List Byte :=
  withColumn body (fun c s =>
    if s.sups[c].condition = .disabled then refuse .wrongState s
    else (chooseNext (enqueue c s), answer .ok [])) s

/-- COLUMN_MEASURE (R96). -/
def execColumnMeasure (body : List Byte) (s : State) : Host.Outcome State Fault Refusal :=
  event (serve 0xA3 (columnMeasure body)) s

end Sys2Proof.Machine
end

