-- ==== Sys2Proof/Machine/JournalRequests.lean ====
section
/-! DEFINITION. JournalRequests: JOURNAL_READ and JOURNAL_RELEASE (R145, R146). -/

namespace Sys2Proof.Machine

open Sys2Proof

/-- JOURNAL READ (R145): the restart flag first, then the delivery, then the mark. -/
def journalRead (body : List Byte) (s : State) : State × List Byte :=
  withTwoBytes body (fun n restart s =>
    if n.toNat = 0 ∨ 8 < n.toNat ∨ 1 < restart.toNat then refuse .badValue s
    else
      let mark := if restart.toNat = 1 then 0 else s.journal.readMark
      let delivered := (s.journal.records.drop mark).take n.toNat
      let mark := mark + delivered.length
      ({ s with journal := { s.journal with readMark := mark } },
        answer .ok ([byte delivered.length] ++ bytes 2 s.journal.held ++ bytes 2 mark ++
          delivered.flatMap Record.delivered))) s

/-- JOURNAL_READ (R145). -/
def execJournalRead (body : List Byte) (s : State) : Host.Outcome State Fault Refusal :=
  event (serve 0xC0 (journalRead body)) s

/-- The head of the journal in a JOURNAL RELEASE reply: marker and sequence number (R175). -/
def headBytes : List Record → List Byte
  | [] => flag false :: bytes 4 0
  | r :: _ => flag true :: bytes 4 r.seq.toNat

/-- The journal with its `n` oldest records removed; below 1,792 the high mark is armed (R146, R147). -/
def Journal.release (n : Nat) (j : Journal) : Journal :=
  let records := j.records.drop n
  { j with records := records, readMark := j.readMark - n,
           highArmed := j.highArmed || decide (records.length < 1792) }

/-- JOURNAL RELEASE (R146). -/
def journalRelease (body : List Byte) (s : State) : State × List Byte :=
  withTwoBytes body (fun n1 n0 s =>
    let n := number [n1, n0]
    if n = 0 ∨ s.journal.readMark < n then refuse .badValue s
    else
      let j := s.journal.release n
      ({ s with journal := j },
        answer .ok (bytes 2 j.held ++ bytes 2 j.readMark ++ headBytes j.records))) s

/-- JOURNAL_RELEASE (R146). -/
def execJournalRelease (body : List Byte) (s : State) : Host.Outcome State Fault Refusal :=
  event (serve 0xC1 (journalRelease body)) s

end Sys2Proof.Machine
end

