-- ==== Sys2Proof/Machine/Lines.lean ====
section
/-! DEFINITION. Lines: the frame events of the host link and the reader line (R159 to R162, R166, R167). -/

namespace Sys2Proof.Machine

open Sys2Proof

/-- CHECK_ERROR (R162): answered CHECK ERROR with reply kind 0xFF and counted. -/
def execCheckError (s : State) : Host.Outcome State Fault Refusal :=
  event (serve 0xFF (fun s => (countLinkError s, answer .checkError []))) s

/-- UNKNOWN_KIND (R162): answered UNKNOWN KIND with reply kind 0xFF and the kind byte received. -/
def execUnknownKind (kind : Byte) (s : State) : Host.Outcome State Fault Refusal :=
  event (serve 0xFF (fun s => (s, answer .unknownKind [kind]))) s

/-- FRAME_WHILE_REQUEST_IN_HAND (R162): discarded without reply and counted. -/
def execFrameWhileRequestInHand (s : State) : Host.Outcome State Fault Refusal :=
  event (fun s => if s.host.inHand.isSome then countLinkError (hostFrameEnds s) else s) s

/-- A frame in reception is discarded and the receiver hunts; on the host link the discard is counted
(R161). -/
def discardFrame (line : Line) (s : State) : State :=
  match line with
  | .host => if s.host.frame.isSome then countLinkError (hostFrameEnds s) else s
  | .reader => if s.reader.frame.isSome then readerFrameEnds s else s

/-- FRAME_DISCARD (R161); every cause discards alike. -/
def execFrameDiscard (line : Line) (_cause : DiscardCause) (s : State) :
    Host.Outcome State Fault Refusal :=
  event (discardFrame line) s

/-- The frame in reception on a line. -/
def State.reception (s : State) : Line → Option Reception
  | .host => s.host.frame
  | .reader => s.reader.frame

/-- The first whole millisecond at which more than 50 ms have passed since the last byte (R161; log 4). -/
def Reception.gap (r : Reception) : Nat := r.last + 51

/-- INTERBYTE_GAP (R161): the gap has passed since the last byte of the frame in reception; no gap is
measured while the receiver hunts (log 24). -/
def execInterbyteGap (line : Line) (s : State) : Host.Outcome State Fault Refusal :=
  event (fun s =>
    match s.reception line with
    | none => s
    | some r => discardFrame line (reach r.gap s)) s

/-- A hunting receiver begins a frame in reception with its start mark, one that holds a frame keeps it
(R161). -/
def beginFrame (now : Nat) (frame : Option Reception) : Option Reception :=
  frame.orElse fun _ => some { bytes := [], last := now }

/-- START_MARK (R161): the receiver begins a frame in reception; the reader receiver ignores the line while RDIR is driven (R159). -/
def execStartMark (line : Line) (s : State) : Host.Outcome State Fault Refusal :=
  event (fun s =>
    match line with
    | .host => { s with host := { s.host with frame := beginFrame s.now s.host.frame } }
    | .reader =>
      if s.reader.sending.isSome then s
      else { s with reader := { s.reader with frame := beginFrame s.now s.reader.frame } }) s

/-- The end mark of a reply: the link is free, but a RESTART stays in hand (R162, R173). -/
def replyGone (h : InHand) : Option InHand := if h.restart then some { h with sent := true } else none

/-- REPLY_SENT (R162, R173). -/
def execReplySent (s : State) : Host.Outcome State Fault Refusal :=
  event (fun s => { s with host := { s.host with inHand := s.host.inHand.bind replyGone } }) s

/-- VERDICT_SENT (R167): RDIR is released and the next waiting verdict may begin. -/
def execVerdictSent (s : State) : Host.Outcome State Fault Refusal :=
  event (fun s =>
    if s.reader.sending.isSome then
      startVerdict { s with reader := { s.reader with sending := none } }
    else s) s

/-- READER_FRAME_REJECTED (R166): discarded without verdict and not counted; while a verdict is being
sent the line is not received at all (R159, R167; log 10). -/
def execReaderFrameRejected (_cause : RejectCause) (s : State) : Host.Outcome State Fault Refusal :=
  event (fun s => if s.reader.sending.isSome then s else readerFrameEnds s) s

end Sys2Proof.Machine
end

