-- ==== Sys2Proof/Machine/ProfileOps.lean ====
section
/-! DEFINITION. ProfileOps: the item table, the checks of a profile write and what it puts into force (09 9.7, R16, R105, R106, R170, R171). -/

namespace Sys2Proof.Machine

open Sys2Proof

/-! ### Settings (R170) -/

/-- An item setting as sent: item code, column byte and the value's bytes (R170). -/
structure Setting where
  code : Byte
  column : Byte
  value : List Byte
  deriving DecidableEq, Repr

/-- The width of an item's value, none for a code not in the table (09 9.7). -/
def itemWidth (code : Byte) : Option Nat :=
  match code.toNat with
  | 0x01 | 0x02 => some 4
  | 0x03 | 0x04 | 0x05 | 0x06 | 0x07 => some 1
  | 0x08 | 0x09 | 0x0A => some 2
  | 0x0B => some 1
  | 0x0C | 0x0D | 0x0E => some 2
  | 0x0F => some 1
  | 0x10 => some 2
  | 0x11 => some 1
  | 0x20 | 0x21 => some 1
  | 0x22 | 0x23 => some 2
  | 0x24 => some 1
  | 0x25 => some 4
  | _ => none

/-- The seventeen global items stand below the per-column items (09 9.7). -/
def Setting.isGlobal (x : Setting) : Bool := decide (x.code.toNat < 0x20)

/-- The column of a per-column setting. -/
def Setting.columnIndex (x : Setting) : Column := (columnOf x.column).getD 0

/-- The settings read from the start of a body, and whether an unknown code stopped the reading; none
where the body ends inside a setting (R170; log 15). -/
def parseSettings : Nat → List Byte → Option (List Setting × Bool)
  | _, [] => some ([], false)
  | 0, _ => none
  | _, [_] => none
  | fuel + 1, code :: column :: rest =>
    match itemWidth code with
    | none => some ([], true)
    | some w =>
      if rest.length < w then none
      else
        match parseSettings fuel (rest.drop w) with
        | none => none
        | some (xs, unknown) =>
          some ({ code := code, column := column, value := rest.take w } :: xs, unknown)

/-- A global item carries column byte 0xFF and a per-column item a column (R170). -/
def Setting.columnGood (x : Setting) : Bool :=
  if x.isGlobal then decide (x.column = 0xFF) else decide (x.column.toNat < 12)

/-- The value of a setting as a number. -/
def Setting.number (x : Setting) : Nat := Machine.number x.value

/-- The start and end minute of a quiet window setting. -/
def Setting.window (x : Setting) : Nat × Nat :=
  (Machine.number (x.value.take 2), Machine.number (x.value.drop 2))

/-- Between two bounds, both included. -/
def within (lo hi v : Nat) : Bool := decide (lo ≤ v) && decide (v ≤ hi)

/-- A quiet window as sent: absent, or two unequal minutes of day (09 9.7, R48). -/
def goodWindow (w : Nat × Nat) : Bool :=
  decide (w = (0xFFFF, 0xFFFF)) ||
    (decide (w.1 ≤ 1439) && decide (w.2 ≤ 1439) && decide (w.1 ≠ w.2))

/-- The value lies in the item's own range (09 9.7). What a range says of another item is a relation. -/
def Setting.inRange (x : Setting) : Bool :=
  match x.code.toNat with
  | 0x01 | 0x02 => within 1 0xFFFFFFFF x.number
  | 0x03 => within 1 199 x.number
  | 0x04 => within 2 200 x.number
  | 0x05 | 0x06 | 0x07 => within 1 15 x.number
  | 0x08 => within 2 600 x.number
  | 0x09 => within 5 250 x.number
  | 0x0A => within 100 500 x.number
  | 0x0B => within 5 60 x.number
  | 0x0C => within 20 600 x.number
  | 0x0D => within 60 3600 x.number
  | 0x0E => within 300 2000 x.number
  | 0x0F => within 5 120 x.number
  | 0x10 => within 60 1800 x.number
  | 0x11 => within 1 15 x.number
  | 0x20 => within 0 1 x.number
  | 0x21 => within 0 5 x.number
  | 0x22 => within 0 3900 x.number
  | 0x24 => within 0 20 x.number
  | 0x25 => goodWindow x.window
  | _ => true

/-- The quiet window that two minutes sent name. -/
def windowOf (w : Nat × Nat) : Option (Nat × Nat) := if w = (0xFFFF, 0xFFFF) then none else some w

/-- One column's items with a setting put into force. -/
def ColumnProfile.put (x : Setting) (p : ColumnProfile) : ColumnProfile :=
  match x.code.toNat with
  | 0x20 => { p with enabled := decide (x.number = 1) }
  | 0x21 => { p with fraction := Fin.ofNat 6 x.number }
  | 0x22 => { p with emptyDistance := x.number }
  | 0x23 => { p with fullDistance := x.number }
  | 0x24 => { p with increment := x.number }
  | 0x25 => { p with quietWindow := windowOf x.window }
  | _ => p

/-- The profile with a setting put into force (R171). -/
def Profile.put (p : Profile) (x : Setting) : Profile :=
  match x.code.toNat with
  | 0x01 => { p with rangeLow := x.number }
  | 0x02 => { p with rangeHigh := x.number }
  | 0x03 => { p with nearFull := x.number }
  | 0x04 => { p with full := x.number }
  | 0x05 => { p with normalInterval := x.number }
  | 0x06 => { p with nearFullInterval := x.number }
  | 0x07 => { p with fullInterval := x.number }
  | 0x08 => { p with scanPause := x.number }
  | 0x09 => { p with spreadTolerance := x.number }
  | 0x0A => { p with blanking := x.number }
  | 0x0B => { p with grantLimit := x.number }
  | 0x0C => { p with hatchOpenLimit := x.number }
  | 0x0D => { p with crewOpenLimit := x.number }
  | 0x0E => { p with travelLimit := x.number }
  | 0x0F => { p with settleTime := x.number }
  | 0x10 => { p with keepTime := x.number }
  | 0x11 => { p with remeasure := x.number }
  | _ => { p with columns := p.columns.set x.columnIndex (p.columns[x.columnIndex].put x) }

/-- The profile a write would leave in force (R170). -/
def Profile.putAll (p : Profile) (xs : List Setting) : Profile := xs.foldl Profile.put p

/-! ### Checks of a write (R170) -/

/-- The position of the first setting whose item an earlier setting has already named (log 15). -/
def firstRepeat : List (Byte × Byte) → Nat → List Setting → Option Nat
  | _, _, [] => none
  | seen, i, x :: xs =>
    if seen.contains (x.code, x.column) then some i
    else firstRepeat ((x.code, x.column) :: seen) (i + 1) xs

/-- The setting takes part in a relation that the profile breaks (R170). -/
def Setting.breaks (p : Profile) (x : Setting) : Bool :=
  let c := p.columns[x.columnIndex]
  match x.code.toNat with
  | 0x01 | 0x02 => decide (p.rangeHigh < p.rangeLow)
  | 0x03 | 0x04 => decide (p.full ≤ p.nearFull)
  | 0x0A => p.columns.toList.any fun c => decide (c.fullDistance < p.blanking + 50)
  | 0x22 => decide (3900 < c.emptyDistance) || decide (c.emptyDistance < c.fullDistance + 100)
  | 0x23 => decide (c.fullDistance < p.blanking + 50) ||
      decide (c.emptyDistance < c.fullDistance + 100)
  | _ => false

/-- A per-column setting of a column that is not LOCKED or stands on an OPEN round's manifest (R170). -/
def Setting.wrongState (s : State) (x : Setting) : Bool :=
  !x.isGlobal &&
    (decide (s.access[x.columnIndex].state ≠ .locked) || s.round.lists x.columnIndex)

/-- The refusal of a write, if one of the cases of R170 applies: its status and the position. -/
def writeRefusal (s : State) (xs : List Setting) (unknown : Bool) : Option (Status × Nat) :=
  match xs.findIdx? (fun x => !x.columnGood) with
  | some i => some (.badValue, i)
  | none =>
    if unknown then some (.badValue, xs.length)
    else
      match firstRepeat [] 0 xs with
      | some i => some (.badValue, i)
      | none =>
        match xs.findIdx? (fun x => !x.inRange) with
        | some i => some (.badValue, i)
        | none =>
          match xs.findIdx? (Setting.breaks (s.profile.putAll xs)) with
          | some i => some (.badValue, i)
          | none =>
            match xs.findIdx? (Setting.wrongState s) with
            | some i => some (.wrongState, i)
            | none => none

/-! ### Effects of a write (R16, R105, R106, R171) -/

/-- A column record after disabling (R16); its latch follows the contacts from then on (R9; log 14). -/
def Supervisor.disable (p : Supervisor) : Supervisor :=
  { p with condition := .disabled, reason := none, drive := .off, travel := none, permit := false,
           latch := p.latchShown }

/-- A column disabled: the supervisor, the latch rest and the ranging engine (R16, R71, R106). -/
def disableColumn (c : Column) (s : State) : State :=
  dropColumn c ((s.modSup c Supervisor.disable).modAccess c fun a => { a with rest := none })

/-- The condition a column is enabled into, before the fault of a latch away from home (R16). -/
def Supervisor.enable (p : Supervisor) : Supervisor :=
  { p with condition := if p.liftOut then .absent else .inService, reason := none }

/-- A DISABLED column enabled: its condition from its filtered inputs, then an opening found (R16). -/
def enableColumn (c : Column) (s : State) : State :=
  let s := s.modSup c Supervisor.enable
  if s.sups[c].condition = .absent then s
  else
    let s := if s.sups[c].latch = .home then s else takeFault c .latchFault s
    if s.sups[c].hatchOpen then reportOpened c s else s

/-- What an enabled setting that changes its column does, the profile before the write given (R171). -/
def switchColumn (before : Profile) (s : State) (x : Setting) : State :=
  let c := x.columnIndex
  if x.code = 0x20 ∧ before.columns[c].enabled ≠ s.profile.columns[c].enabled then
    if s.profile.columns[c].enabled then enableColumn c s else disableColumn c s
  else s

/-- Every column's band recomputed when N or U has changed (R105). -/
def rejudgeBands (before : Profile) (s : State) : State :=
  if before.nearFull = s.profile.nearFull ∧ before.full = s.profile.full then s
  else allColumns.foldl (fun s c => recomputeBand c s) s

/-- Every setting put into force in one event (R171). -/
def applySettings (xs : List Setting) (s : State) : State :=
  let before := s.profile
  let s := { s with profile := before.putAll xs }
  chooseNext (rejudgeBands before (xs.foldl (switchColumn before) s))

/-! ### The profile as read (R172) -/

/-- An item in the setting form of R170. -/
def settingBytes (column : Byte) (item : Nat × Nat × Nat) : List Byte :=
  [byte item.1, column] ++ bytes item.2.1 item.2.2

/-- The global items with their codes and widths, in item code order. -/
def Profile.globalItems (p : Profile) : List (Nat × Nat × Nat) :=
  [(0x01, 4, p.rangeLow), (0x02, 4, p.rangeHigh), (0x03, 1, p.nearFull), (0x04, 1, p.full),
    (0x05, 1, p.normalInterval), (0x06, 1, p.nearFullInterval), (0x07, 1, p.fullInterval),
    (0x08, 2, p.scanPause), (0x09, 2, p.spreadTolerance), (0x0A, 2, p.blanking),
    (0x0B, 1, p.grantLimit), (0x0C, 2, p.hatchOpenLimit), (0x0D, 2, p.crewOpenLimit),
    (0x0E, 2, p.travelLimit), (0x0F, 1, p.settleTime), (0x10, 2, p.keepTime),
    (0x11, 1, p.remeasure)]

/-- A column's items with their codes and widths, in item code order. -/
def ColumnProfile.items (p : ColumnProfile) : List (Nat × Nat × Nat) :=
  let w := p.quietWindow.getD (0xFFFF, 0xFFFF)
  [(0x20, 1, if p.enabled then 1 else 0), (0x21, 1, p.fraction.val), (0x22, 2, p.emptyDistance),
    (0x23, 2, p.fullDistance), (0x24, 1, p.increment), (0x25, 4, w.1 * 65536 + w.2)]

end Sys2Proof.Machine
end

