-- ==== Sys2Proof/Machine/Part.lean ====
section
/-! DEFINITION. Part: IDENTIFY, STATUS, RESTART, PROFILE_WRITE and PROFILE_READ, the requests of the part as a whole (09 9.6 to 9.8). -/

namespace Sys2Proof.Machine

open Sys2Proof

/-- The fields of IDENTIFY (R168). -/
def identifyFields : List Byte :=
  bytes 2 0x5C0C ++ [1, 12] ++ bytes 2 4096 ++ bytes 2 2048 ++ [32]

/-- IDENTIFY (R168). -/
def identify (body : List Byte) (s : State) : State × List Byte :=
  withNoBody body (fun s => (s, answer .ok identifyFields)) s

/-- IDENTIFY (R168). -/
def execIdentify (body : List Byte) (s : State) : Host.Outcome State Fault Refusal :=
  event (serve 0x81 (identify body)) s

/-- The flags byte of STATUS (R168). -/
def statusFlags (s : State) : Byte :=
  byte (bit 0 s.table.provisional + bit 1 s.clock.timeSet + bit 2 s.host.transfer.isSome)

/-- The open transfer in STATUS (R168). -/
def transferBytes : Option Transfer → List Byte
  | none => [0xFF, 0xFF]
  | some x => [byte x.block.val, byte x.delivered]

/-- A column's condition and band in STATUS (R168). -/
def conditionBand (s : State) (c : Column) : List Byte :=
  [byte s.sups[c].condition.code, byte s.fills[c].band.code]

/-- The fields of STATUS (R168). -/
def statusFields (s : State) : List Byte :=
  [statusFlags s] ++ bytes 2 s.period.toNat ++ bytes 2 s.journal.held ++
    bytes 2 s.journal.reservations ++ bytes 2 s.journal.readMark ++
    [byte s.alerts.entries.length, byte s.alerts.dropped, byte s.round.state.code] ++
    bytes 2 s.host.linkErrors ++ transferBytes s.host.transfer ++
    allColumns.flatMap (conditionBand s)

/-- STATUS (R168). -/
def status (body : List Byte) (s : State) : State × List Byte :=
  withNoBody body (fun s => (s, answer .ok (statusFields s))) s

/-- STATUS (R168). -/
def execStatus (body : List Byte) (s : State) : Host.Outcome State Fault Refusal :=
  event (serve 0x82 (status body)) s

/-- RESTART (R173): answered OK at once; the soft restart is SOFT_RESTART. -/
def restart (body : List Byte) (s : State) : State × List Byte :=
  withNoBody body (fun s => (s, answer .ok [])) s

/-- RESTART (R173). -/
def execRestart (body : List Byte) (s : State) : Host.Outcome State Fault Refusal :=
  event (serve 0x83 (restart body)) s

/-- PROFILE WRITE (R170, R171). -/
def profileWrite (body : List Byte) (s : State) : State × List Byte :=
  if body.length < 3 ∨ 239 < body.length then refuse .badLength s
  else
    match parseSettings body.length body with
    | none => refuse .badLength s
    | some (xs, unknown) =>
      match writeRefusal s xs unknown with
      | some (st, i) => (s, answer st [byte i])
      | none => (applySettings xs s, answer .ok [byte xs.length])

/-- PROFILE_WRITE (R170). -/
def execProfileWrite (body : List Byte) (s : State) : Host.Outcome State Fault Refusal :=
  event (serve 0x86 (profileWrite body)) s

/-- PROFILE READ (R172). -/
def profileRead (body : List Byte) (s : State) : State × List Byte :=
  withByte body (fun sel s =>
    if sel = 0xFF then (s, answer .ok (s.profile.globalItems.flatMap (settingBytes 0xFF)))
    else
      match columnOf sel with
      | none => refuse .badValue s
      | some c => (s, answer .ok (s.profile.columns[c].items.flatMap (settingBytes sel)))) s

/-- PROFILE_READ (R172). -/
def execProfileRead (body : List Byte) (s : State) : Host.Outcome State Fault Refusal :=
  event (serve 0x87 (profileRead body)) s

end Sys2Proof.Machine
end

