-- ==== Sys2Proof/Machine/RangingEvents.lean ====
section
/-! DEFINITION. RangingEvents: PING, ECHO, NO_ECHO and SCAN_PAUSE_EXPIRY (05). -/

namespace Sys2Proof.Machine

open Sys2Proof

/-- The spacing of the pings and the settling before the first (R86). -/
def pingSpacing : Nat := 60

/-- The counter value that closes a window without an echo (R87). -/
def windowEnd : Nat := 4000

/-- The moment at which the ping in hand is fired (R86). -/
def Burst.pingTime (b : Burst) : Nat := b.start + pingSpacing * b.pingInHand

/-- The time at which the distance counter of a window shows a value, in whole milliseconds: the
counter advances with sound's one-way travel at 343 m/s (R87). -/
def counterTime (opened counter : Nat) : Nat := opened + 2 * counter / 343

/-- The ping in hand is fired and its window opens, the previous window having closed (R86). -/
def firePing (s : State) : State :=
  match s.ranging.burst with
  | none => s
  | some b =>
    if b.window.isNone ∧ b.results.length < 3 then
      let s := reach b.pingTime s
      { s with ranging := { s.ranging with burst := some { b with window := some s.now } } }
    else s

/-- PING (R86). -/
def execPing (s : State) : Host.Outcome State Fault Refusal := event firePing s

/-- A success handed on: engine, tracker, and the round controller for an EMPTYING burst (R88, R99,
R102). -/
def handSuccess (b : Burst) (mm : Nat) (s : State) : State :=
  let t := s.clock.reading
  let s := s.modHead b.column fun h => { h with failures := 0, last := some { mm := mm, time := t } }
  let s := trackSuccess b.column mm s
  if b.purpose = .emptying then roundMeasured b.column (some (fillOf b.column mm s)) s else s

/-- A failure handed on (R88, R97, R100, R102). -/
def handFailure (b : Burst) (s : State) : State :=
  let s := countFailure b.column s
  if b.purpose = .emptying then roundMeasured b.column none (trackEmptied b.column s) else s

/-- The result of a burst formed with the spread tolerance as it stands and handed on; the engine is
then free and chooses (R88). -/
def finishBurst (b : Burst) (s : State) : State :=
  let s' := endBurst s
  chooseNext
    (match formResult s.profile.spreadTolerance b.results with
    | .success mm => handSuccess b mm s'
    | .unstable | .noEcho => handFailure b s')

/-- The open window closes with a result in the ping's slot; the third forms the burst's result (R87,
R88). -/
def closeWindow (b : Burst) (r : PingResult) (s : State) : State :=
  let b := { b with window := none, results := b.results ++ [r] }
  let s := { s with ranging := { s.ranging with burst := some b } }
  if b.results.length = 3 then finishBurst b s else s

/-- ECHO (R87): ignored with no window open and below the blanking distance; the counter of an open
window stands below 4,000 (log 17). -/
def execEcho (counter : Nat) (s : State) : Host.Outcome State Fault Refusal :=
  event (fun s =>
    match s.ranging.burst with
    | none => s
    | some b =>
      match b.window with
      | none => s
      | some opened =>
        if windowEnd ≤ counter then s
        else
          let s := reach (counterTime opened counter) s
          if counter < b.blanking then s else closeWindow b (.distance counter) s) s

/-- NO_ECHO (R87): the counter of the open window reaches 4,000. -/
def execNoEcho (s : State) : Host.Outcome State Fault Refusal :=
  event (fun s =>
    match s.ranging.burst with
    | none => s
    | some b =>
      match b.window with
      | none => s
      | some opened => closeWindow b .noEcho (reach (counterTime opened windowEnd) s)) s

/-- SCAN_PAUSE_EXPIRY (R95): the timer stops, and a free engine chooses; a stopped timer does not
expire (log 3). -/
def execScanPauseExpiry (s : State) : Host.Outcome State Fault Refusal :=
  event (fun s =>
    match s.ranging.pause with
    | none => s
    | some due =>
      let s := reach due s
      chooseNext { s with ranging := { s.ranging with pause := none } }) s

end Sys2Proof.Machine
end

