-- ==== Sys2Proof/Machine/Resets.lean ====
section
/-! DEFINITION. Resets: SOFT_RESTART and FULL_RESET (R17, R18, R30, R43, R44, R56, R83 to R85, R107, R108, R132, R133, R148, R149, R157, R158, R173, R174). -/

namespace Sys2Proof.Machine

open Sys2Proof

/-! ### The machines after either reset (R84, R85) -/

/-- A machine with no grant, no mark and no timer, its state as its filtered hatch has it: OPEN without
a context, or HOMING and on to LOCKED where the latch is HOME (R77, R84, R85). -/
def Access.restart (due : Nat) (hatchOpen : Bool) (latch : LatchState) (a : Access) : Access :=
  let a := { a with context := none, grantTimer := none, openTimer := none, cancelMark := false,
                    drainMark := false, rest := none }
  if hatchOpen then a.openWithout due
  else { a with state := if latch = .home then .locked else .homing }

/-! ### Soft restart (R173; log 9) -/

/-- The supervisor of a column: permit withdrawn, and a home request unless DISABLED (R18). -/
def restartSupervisor (s : State) (c : Column) : State :=
  let s := withdrawPermit c s
  if s.sups[c].condition = .disabled then s else homeRequest c s

/-- The grant of a column settled (R83). -/
def settleGrant (s : State) (c : Column) : State :=
  match s.access[c].context with
  | none => s
  | some g =>
    match s.access[c].state with
    | .releasing | .awaitOpen => undoGrant c s
    | .open => settleOpened c g true true s
    | .locked | .homing => s

/-- The machine of a column set by its filtered hatch; a DISABLED column's stays LOCKED. An enabled
column's leaves LOCKED, so a burst on it is abandoned (R57, R84). -/
def restartAccess (s : State) (c : Column) : State :=
  let p := s.sups[c]
  if p.condition = .disabled then
    s.modAccess c fun a =>
      { a with state := .locked, context := none, grantTimer := none, openTimer := none,
               cancelMark := false, drainMark := false, rest := none }
  else abandonBurst c (s.modAccess c (Access.restart (hatchDue s) p.hatchOpen p.latch))

/-- The entries not yet DONE, in manifest order. -/
def Round.unfinished (r : Round) : List Column := r.columnsWith fun st => decide (st ≠ .done)

/-- The engine with no work in flight and its scan at the start; failures and last distances are kept,
and RSEL keeps its column (R86, R108). -/
def Ranging.restart (r : Ranging) : Ranging :=
  { burst := none, queue := [], pointer := 0, pause := none, rsel := r.rsel,
    heads := Vector.ofFn fun c => { r.heads[c] with skip := 0 } }

/-- The alert list emptied, its floor kept (R158). -/
def AlertList.restart (a : AlertList) : AlertList := { a with entries := [], dropped := 0 }

/-- The reader line: waiting verdicts and a frame in reception are let go (R173). -/
def ReaderLine.restart (r : ReaderLine) : ReaderLine := { r with waiting := [], frame := none }

/-- The column supervisors' event (R18). -/
def restartSupervisors (s : State) : State := allColumns.foldl restartSupervisor s

/-- The access controller's event: every grant in flight is settled, then each machine is set (R83, R84). -/
def restartMachines (s : State) : State :=
  allColumns.foldl restartAccess (allColumns.foldl settleGrant s)

/-- The round controller's event: an OPEN round is aborted, and a permit asserted since the supervisors
took the restart is withdrawn (R12, R132). -/
def restartRound (s : State) : State :=
  if s.round.state = .open then
    raiseAlert .roundAborted none
      (leaveOpen .aborted (finishAll .aborted s.round.unfinished (withdrawActive s)))
  else s

/-- The ranging engine's event (R108). -/
def restartEngine (s : State) : State := { s with ranging := s.ranging.restart }

/-- The reader line controller's event (R173). -/
def restartReader (s : State) : State := { s with reader := s.reader.restart }

/-- The alert list's event (R158). -/
def restartAlerts (s : State) : State := { s with alerts := s.alerts.restart }

/-- The blocks' events in the order in which they are taken: grants settled before the round is aborted
(R83), the alert list emptied last (R158), the rest as log 9 has it. The clock, the period and the
journal keep what they hold (R56, R149). -/
def restartBlocks : List (State → State) :=
  [restartSupervisors, restartMachines, closeTransfer, restartRound, restartEngine, restartReader,
    restartAlerts]

/-- The request in hand after the restart: a RESTART is let go (R173). -/
def freeRestart (h : InHand) : Option InHand := if h.restart then none else some h

/-- Every block has taken the restart, and the RESTART is let go (R173). -/
def endRestart (s : State) : State :=
  { s with
    restarted := 0,
    host := { s.host with inHand := s.host.inHand.bind freeRestart } }

/-- The next block of a restart in progress takes it, as one event of its own; the engine chooses at the
event's end (R173; log 7, 9). -/
def restartNext (s : State) : State :=
  match restartBlocks.drop s.restarted with
  | [] => endRestart s
  | [block] => chooseNext (endRestart (block s))
  | block :: _ => chooseNext { block s with restarted := s.restarted + 1 }

/-- The whole soft restart, every block in turn: the table's step, whole and indivisible (R173; log 9). -/
def softRestart (s : State) : State :=
  endRestart (restartBlocks.foldl (fun s block => block s) s)

/-- SOFT_RESTART (R173). -/
def execSoftRestart (s : State) : Host.Outcome State Fault Refusal := event softRestart s

/-! ### Full reset (00_scope 3.4) -/

/-- A supervisor after a full reset, from its pins, before its home request (R17). -/
def Supervisor.fromPins (p : Supervisor) : Supervisor :=
  { condition := if p.lift.pin then .inService else .absent,
    reason := none, latch := .home, drive := .off, travel := none,
    hatch := .steady p.hatch.pin, lift := .steady p.lift.pin,
    homeContact := .steady p.homeContact.pin, releasedContact := .steady p.releasedContact.pin,
    hatchOpen := p.lift.pin && !p.hatch.pin, permit := false }

/-- The home request of R17 on a supervisor whose time base stands at 0 (R6), with both contacts made as
`homeRequest` has it (log 32). -/
def Supervisor.resetLatch (p : Supervisor) : Supervisor :=
  if p.homeAlone then p
  else { p with latch := .homing, drive := .towardHome, travel := some Profile.default.travelLimit }

/-- The supervisor of a column after a full reset (R17). -/
def Supervisor.fullReset (p : Supervisor) : Supervisor := p.fromPins.resetLatch

/-- The machine of a column after a full reset (R85). -/
def accessAfterReset (p : Supervisor) : Access :=
  Access.reset.restart (seconds Profile.default.hatchOpenLimit) p.hatchOpen p.latch

/-- The part after a full reset: every block at its starting values and the columns as their pins have
them; the engine is free and its first choice is due (R107; log 7). Bytes that the lines brought before the reset's end
are not taken (R174). The levels at the pins are the world's; the queue and the draws are the model's own
(log 26). -/
def fullReset (s : State) : State :=
  let sups := Vector.ofFn fun c : Column => s.sups[c].fullReset
  { State.reset with
    sups := sups, access := Vector.ofFn fun c : Column => accessAfterReset sups[c],
    draws := s.draws, pending := s.pending }

/-- FULL_RESET (R17, R43, R56, R85, R107, R133, R148, R157, R174). -/
def execFullReset (s : State) : Host.Outcome State Fault Refusal := .next (fullReset s)

end Sys2Proof.Machine
end

