-- ==== Sys2Proof/Machine/RoundRequests.lean ====
section
/-! DEFINITION. RoundRequests: the round requests and the round's two timers (06). -/

namespace Sys2Proof.Machine

open Sys2Proof

/-- A new manifest entry, PENDING (R112). -/
def ManifestEntry.new (c : Column) : ManifestEntry :=
  { column := c, status := .pending, outcome := none, failReason := none, fillBefore := none,
    fillAfter := none, residue := false }

/-- The checks of R112 on the values of a request: the round id, the count and the columns. -/
def roundColumns (s : State) (id : BitVec 16) (n : Byte) (cs : List Byte) : Option (List Column) :=
  if id = 0 ∨ n.toNat = 0 ∨ 12 < n.toNat then none
  else
    match columnsOf cs with
    | none => none
    | some cols =>
      if cols.Nodup ∧ cols.all (fun c => decide (s.sups[c].condition ≠ .disabled)) = true then
        some cols
      else none

/-- The round record of an accepted ROUND OPEN (R112). -/
def openRound (id : BitVec 16) (vehicle : BitVec 32) (cols : List Column) (s : State) : State :=
  let r : Round :=
    { state := .open, id := some id, vehicle := some vehicle, openTime := some s.clock.reading,
      manifest := cols.map ManifestEntry.new, stage := none,
      supervision := .counting (s.now + seconds s.profile.keepTime), settleTimer := none,
      liftStart := none }
  reserve cols.length { s with round := r }

/-- ROUND OPEN (R112). -/
def roundOpen (body : List Byte) (s : State) : State × List Byte :=
  match body with
  | i1 :: i0 :: v3 :: v2 :: v1 :: v0 :: n :: cs =>
    if cs.length ≠ n.toNat then refuse .badLength s
    else if s.round.state = .open then refuse .roundActive s
    else
      match roundColumns s (i1 ++ i0) n cs with
      | none => refuse .badValue s
      | some cols =>
        if 2048 < s.journal.sum + cols.length then refuse .journalFull s
        else (openRound (i1 ++ i0) (v3 ++ v2 ++ v1 ++ v0) cols s, answer .ok [i1, i0, n])
  | _ => refuse .badLength s

/-- ROUND_OPEN (R112). -/
def execRoundOpen (body : List Byte) (s : State) : Host.Outcome State Fault Refusal :=
  event (serve 0xB0 (roundOpen body)) s

/-- The condition under which a column may be claimed (R117). -/
def Supervisor.claimable (p : Supervisor) : Bool :=
  decide (p.condition = .inService) ||
    (decide (p.condition = .outOfService) && decide (p.reason = some .withdrawn))

/-- The refusal of a claim, by the checks of R117 in order. -/
def claimRefusal (s : State) (c : Column) : Option Status :=
  if s.round.state ≠ .open then some .noRound
  else
    match s.round.entryOf c with
    | none => some .notOnRound
    | some e =>
      if e.status ≠ .pending then some .wrongState
      else if s.round.active.isSome then some .entryActive
      else if !s.sups[c].claimable then some .causePersists
      else none

/-- An accepted claim, in the order of R118. -/
def claim (c : Column) (s : State) : State :=
  let before := s.fills[c].estimate
  let round := s.round.modEntry c fun e => { e with status := .active, fillBefore := some before }
  let s := abandonBurst c (reloadSupervision { s with round := { round with stage := some .draining } })
  chooseNext (deliverLocked c (drainRequest c s))

/-- Entry status, outcome and stage as they stand at the end of the event (R118, R175). -/
def claimFields (s : State) (c : Column) : List Byte :=
  match s.round.entryOf c with
  | none => [0, 0, 0]
  | some e => [byte e.status.code, byte (outcomeCode e.outcome), byte (stageCode (s.round.stageOf c))]

/-- ROUND CLAIM (R117, R118). -/
def roundClaim (body : List Byte) (s : State) : State × List Byte :=
  withColumn body (fun c s =>
    match claimRefusal s c with
    | some st => refuse st s
    | none =>
      let s := claim c s
      (s, answer .ok (claimFields s c))) s

/-- ROUND_CLAIM (R117, R118). -/
def execRoundClaim (body : List Byte) (s : State) : Host.Outcome State Fault Refusal :=
  event (serve 0xB1 (roundClaim body)) s

/-- A stage in which an emptying can no longer be given up (R129). -/
def Stage.pastLift : Stage → Bool
  | .lifted | .settling | .measuring => true
  | .draining | .permitted => false

/-- The refusal of a skip, by the checks of R129 in order. -/
def skipRefusal (s : State) (c : Column) : Option Status :=
  if s.round.state ≠ .open then some .noRound
  else
    match s.round.entryOf c with
    | none => some .notOnRound
    | some e =>
      if e.status = .done then some .wrongState
      else if e.status = .active ∧ s.round.stage.any Stage.pastLift = true then some .wrongState
      else none

/-- An accepted skip: what a claimed column gives back first, then the outcome and its record (R129). -/
def skip (c : Column) (s : State) : State :=
  let s :=
    if s.round.inStage c .draining then endDrain c s
    else if s.round.inStage c .permitted then withdrawPermit c s
    else s
  chooseNext (reloadSupervision (finishEntry c .skipped none none false s))

/-- ROUND SKIP (R129). -/
def roundSkip (body : List Byte) (s : State) : State × List Byte :=
  withColumn body (fun c s =>
    match skipRefusal s c with
    | some st => refuse st s
    | none => (skip c s, answer .ok [])) s

/-- ROUND_SKIP (R129). -/
def execRoundSkip (body : List Byte) (s : State) : Host.Outcome State Fault Refusal :=
  event (serve 0xB2 (roundSkip body)) s

/-- ROUND KEEP (R116). -/
def roundKeep (body : List Byte) (s : State) : State × List Byte :=
  withNoBody body (fun s =>
    if s.round.state ≠ .open then refuse .noRound s
    else (reloadSupervision s, answer .ok (bytes 2 s.profile.keepTime))) s

/-- ROUND_KEEP (R116). -/
def execRoundKeep (body : List Byte) (s : State) : Host.Outcome State Fault Refusal :=
  event (serve 0xB3 (roundKeep body)) s

/-- The PENDING columns of the manifest, in its order. -/
def Round.pending (r : Round) : List Column := r.columnsWith fun st => decide (st = .pending)

/-- ROUND CLOSE (R130). -/
def roundClose (body : List Byte) (s : State) : State × List Byte :=
  withNoBody body (fun s =>
    if s.round.state ≠ .open then refuse .noRound s
    else if s.round.active.isSome then refuse .entryActive s
    else
      (raiseAlert .roundEnded none (leaveOpen .closed (finishAll .skipped s.round.pending s)),
        answer .ok [byte s.round.pending.length])) s

/-- ROUND_CLOSE (R130). -/
def execRoundClose (body : List Byte) (s : State) : Host.Outcome State Fault Refusal :=
  event (serve 0xB4 (roundClose body)) s

/-- A manifest entry in ROUND READ (R175). -/
def ManifestEntry.bytes (e : ManifestEntry) : List Byte :=
  [byte e.column.val, byte e.status.code, byte (outcomeCode e.outcome), byte (failCode e.failReason),
    byte (bit 0 e.fillBefore.isSome + bit 1 e.fillAfter.isSome + bit 2 e.residue)] ++
    optional 1 e.fillBefore ++ optional 1 e.fillAfter

/-- An optional clock reading, zeros when absent (R175). -/
def readingBytes : Option Reading → List Byte
  | none => bytes 5 0
  | some t => t.bytes

/-- The active entry's position in the manifest, 0xFF when no entry is ACTIVE (R175). -/
def Round.activeIndex (r : Round) : Byte :=
  match r.manifest.findIdx? (fun e => decide (e.status = .active)) with
  | none => 0xFF
  | some i => byte i

/-- The supervision timer counts. -/
def Round.counting (r : Round) : Bool :=
  match r.supervision with
  | .counting _ => true
  | .held _ => false

/-- The fields of ROUND READ (R131, R175). -/
def roundFields (s : State) : List Byte :=
  let r := s.round
  [byte r.state.code] ++ optional 2 (r.id.map BitVec.toNat) ++
    optional 4 (r.vehicle.map BitVec.toNat) ++ readingBytes r.openTime ++
    [byte r.manifest.length] ++ r.manifest.flatMap ManifestEntry.bytes ++
    [r.activeIndex, byte (stageCode (if r.active.isSome then r.stage else none))] ++
    bytes 2 (r.timeLeft s.now / 1000) ++ [flag r.counting]

/-- ROUND READ (R131). -/
def roundRead (body : List Byte) (s : State) : State × List Byte :=
  withNoBody body (fun s => (s, answer .ok (roundFields s))) s

/-- ROUND_READ (R131). -/
def execRoundRead (body : List Byte) (s : State) : Host.Outcome State Fault Refusal :=
  event (serve 0xB5 (roundRead body)) s

/-- The active entry failed with TIMEOUT, its drain ended or its permit withdrawn (R115 step 1). -/
def timeOutActive (s : State) : State :=
  match s.round.active with
  | none => s
  | some e =>
    let s' := finishEntry e.column .failed (some .timeout) none false s
    if s.round.stage = some .draining then endDrain e.column s'
    else if s.round.stage = some .permitted then withdrawPermit e.column s'
    else s'

/-- The round aborted by its supervision timer, in the order of R115. -/
def abortRound (s : State) : State :=
  let s := timeOutActive s
  raiseAlert .roundAborted none (leaveOpen .aborted (finishAll .aborted s.round.pending s))

/-- SUPERVISION_TIMER_EXPIRY (R115); a timer expires only while R114 has it count. -/
def execSupervisionTimerExpiry (s : State) : Host.Outcome State Fault Refusal :=
  event (fun s =>
    match s.round.supervision with
    | .held _ => s
    | .counting due =>
      if s.round.shouldCount then chooseNext (abortRound (reach due s)) else s) s

/-- SETTLE_TIMER_EXPIRY (R123): MEASURING, and the front request (R93). -/
def execSettleTimerExpiry (s : State) : Host.Outcome State Fault Refusal :=
  event (fun s =>
    match s.round.settleTimer with
    | none => s
    | some due =>
      let s := reach due s
      let s := { s with round := { s.round with settleTimer := none } }
      match s.round.active with
      | none => s
      | some e =>
        if s.round.stage = some .settling then
          chooseNext (frontRequest e.column (setStage .measuring s))
        else s) s

end Sys2Proof.Machine
end

