-- ==== Sys2Proof/Machine/Sensing.lean ====
section
/-! DEFINITION. Sensing: the events of the switch inputs and of the latch (01). -/

namespace Sys2Proof.Machine

open Sys2Proof

/-- INPUT_LEVEL_CHANGE (R3). -/
def execInputLevelChange (c : Column) (i : Input) (closed : Bool) (s : State) :
    Host.Outcome State Fault Refusal :=
  event (fun s => s.modSup c (Supervisor.modFilter i (Filter.change closed s.now))) s

/-! ### Hatch (R4) -/

/-- A change of the hatch input held for 20 ms: filtered always, taken as the filtered hatch where the
hatch is not ignored (R4). -/
def takeHatch (c : Column) (closed : Bool) (s : State) : State :=
  let s := takeInput c .hatch closed s
  if s.sups[c].hatchIgnored then s else s.modSup c fun p => { p with hatchOpen := !closed }

/-- The report of a taken change, made unless the hatch is ignored or the column DISABLED (R1, R4). -/
def hatchReported (c : Column) (s : State) : Bool :=
  !s.sups[c].hatchIgnored && decide (s.sups[c].condition ≠ .disabled)

/-- HATCH_OPENED (R4); no change where the input already stands so (log 3). -/
def execHatchOpened (c : Column) (s : State) : Host.Outcome State Fault Refusal :=
  event (fun s =>
    if s.sups[c].hatch.level then
      let s := takeHatch c false s
      if hatchReported c s then chooseNext (reportOpened c s) else s
    else s) s

/-- HATCH_CLOSED (R4); no change where the input already stands so (log 3). -/
def execHatchClosed (c : Column) (s : State) : Host.Outcome State Fault Refusal :=
  event (fun s =>
    if s.sups[c].hatch.level then s
    else
      let s := takeHatch c true s
      if hatchReported c s then chooseNext (reportClosed c s) else s) s

/-! ### Lift (R10, R11) -/

/-- The unauthorised lift at the supervisor: ABSENT with its reason, then the alert (R10). -/
def markAbsent (c : Column) (s : State) : State :=
  raiseAlert .unauthorisedLift (some c)
    (s.modSup c fun p => { p with condition := .absent, reason := some .unauthorisedLift })

/-- The unauthorised lift at the access machine, the round controller and the ranging engine, then the
LOCKED report (R10, R77, R82, R89, R126; log 8). -/
def reportLift (c : Column) (s : State) : State :=
  deliverLocked c (abandonBurst c (roundLifted c (accessLifted c s)))

/-- A taken change to OUT, judged against the permit as it stands (R4, R10). -/
def liftTaken (c : Column) (s : State) : State :=
  let s := (takeInput c .lift false s).modSup c Supervisor.ignoreHatch
  if s.sups[c].condition = .disabled then s
  else if s.sups[c].permit then chooseNext (abandonBurst c (roundLiftOut c s))
  else chooseNext (reportLift c (markAbsent c s))

/-- LIFT_OUT (R10); no change where the filtered lift already shows OUT (log 3). -/
def execLiftOut (c : Column) (s : State) : Host.Outcome State Fault Refusal :=
  event (fun s => if s.sups[c].liftOut then s else liftTaken c s) s

/-- The condition of a column whose container has returned from ABSENT (R11). -/
def Supervisor.returned (p : Supervisor) : Supervisor :=
  { p with condition := if p.reason.isSome then .outOfService else .inService }

/-- A taken change to SEATED (R4, R11). -/
def returnTaken (c : Column) (s : State) : State :=
  let s := takeInput c .lift true s
  match s.sups[c].condition with
  | .disabled => s.modSup c Supervisor.readHatch
  | .absent => chooseNext (rereadHatch c (enqueue c (s.modSup c Supervisor.returned)))
  | .inService | .outOfService => chooseNext (rereadHatch c (roundLiftIn c s))

/-- LIFT_IN (R11); no change where the filtered lift already shows SEATED (log 3). -/
def execLiftIn (c : Column) (s : State) : Host.Outcome State Fault Refusal :=
  event (fun s => if s.sups[c].liftOut then returnTaken c s else s) s

/-! ### Latch (R7 to R9) -/

/-- A taken change of a contact of a column that is not DISABLED (R7, R8, R9). -/
def contactTaken (c : Column) (s : State) : State :=
  let r := contactJudged c s
  chooseNext (deliverLocked c (accessReport c r.2 r.1))

/-- LATCH_CONTACT_CHANGE (R7 to R9); no change where the contact already stands so (log 3). -/
def execLatchContactChange (c : Column) (k : Contact) (made : Bool) (s : State) :
    Host.Outcome State Fault Refusal :=
  event (fun s =>
    if (s.sups[c].filter (.contact k)).level = made then s
    else
      let s := takeInput c (.contact k) made s
      if s.sups[c].condition = .disabled then
        s.modSup c fun p => { p with latch := p.latchShown }
      else contactTaken c s) s

/-- LATCH_TRAVEL_TIMEOUT (R7); a stopped timer does not expire (log 3). -/
def execLatchTravelTimeout (c : Column) (s : State) : Host.Outcome State Fault Refusal :=
  event (fun s =>
    match s.sups[c].travel with
    | none => s
    | some due => chooseNext (deliverLocked c (accessFailed c (failLatch c (reach due s))))) s

end Sys2Proof.Machine
end

