-- ==== Sys2Proof/Machine/Dispatch.lean ====
section
/-! DEFINITION. Dispatch: one arm for each command, a direct call of its meaning. -/

namespace Sys2Proof.Machine

open Sys2Proof

def exec (i : Instr) (s : State) : Host.Outcome State Fault Refusal :=
  match i with
  | .identify body => Sys2Proof.Machine.execIdentify body s
  | .status body => Sys2Proof.Machine.execStatus body s
  | .restart body => Sys2Proof.Machine.execRestart body s
  | .softRestart => Sys2Proof.Machine.execSoftRestart s
  | .timeSet body => Sys2Proof.Machine.execTimeSet body s
  | .periodSet body => Sys2Proof.Machine.execPeriodSet body s
  | .profileWrite body => Sys2Proof.Machine.execProfileWrite body s
  | .profileRead body => Sys2Proof.Machine.execProfileRead body s
  | .alertFetch body => Sys2Proof.Machine.execAlertFetch body s
  | .alertFloor body => Sys2Proof.Machine.execAlertFloor body s
  | .tableWrite body => Sys2Proof.Machine.execTableWrite body s
  | .tableData more body => Sys2Proof.Machine.execTableData more body s
  | .tableVerify body => Sys2Proof.Machine.execTableVerify body s
  | .tableErase body => Sys2Proof.Machine.execTableErase body s
  | .tableSum body => Sys2Proof.Machine.execTableSum body s
  | .tablePin body => Sys2Proof.Machine.execTablePin body s
  | .tableRelease body => Sys2Proof.Machine.execTableRelease body s
  | .cardQuery body => Sys2Proof.Machine.execCardQuery body s
  | .cardModify body => Sys2Proof.Machine.execCardModify body s
  | .columnRead body => Sys2Proof.Machine.execColumnRead body s
  | .columnService body => Sys2Proof.Machine.execColumnService body s
  | .columnWithdraw body => Sys2Proof.Machine.execColumnWithdraw body s
  | .columnMeasure body => Sys2Proof.Machine.execColumnMeasure body s
  | .roundOpen body => Sys2Proof.Machine.execRoundOpen body s
  | .roundClaim body => Sys2Proof.Machine.execRoundClaim body s
  | .roundSkip body => Sys2Proof.Machine.execRoundSkip body s
  | .roundKeep body => Sys2Proof.Machine.execRoundKeep body s
  | .roundClose body => Sys2Proof.Machine.execRoundClose body s
  | .roundRead body => Sys2Proof.Machine.execRoundRead body s
  | .journalRead body => Sys2Proof.Machine.execJournalRead body s
  | .journalRelease body => Sys2Proof.Machine.execJournalRelease body s
  | .checkError => Sys2Proof.Machine.execCheckError s
  | .unknownKind kind => Sys2Proof.Machine.execUnknownKind kind s
  | .frameWhileRequestInHand => Sys2Proof.Machine.execFrameWhileRequestInHand s
  | .frameDiscard line cause => Sys2Proof.Machine.execFrameDiscard line cause s
  | .interbyteGap line => Sys2Proof.Machine.execInterbyteGap line s
  | .replySent => Sys2Proof.Machine.execReplySent s
  | .transferWatchExpiry => Sys2Proof.Machine.execTransferWatchExpiry s
  | .present column card => Sys2Proof.Machine.execPresent column card s
  | .readerFrameRejected cause => Sys2Proof.Machine.execReaderFrameRejected cause s
  | .verdictSent => Sys2Proof.Machine.execVerdictSent s
  | .fullReset => Sys2Proof.Machine.execFullReset s
  | .clockAdvance => Sys2Proof.Machine.execClockAdvance s
  | .inputLevelChange column input closed => Sys2Proof.Machine.execInputLevelChange column input closed s
  | .hatchOpened column => Sys2Proof.Machine.execHatchOpened column s
  | .hatchClosed column => Sys2Proof.Machine.execHatchClosed column s
  | .liftOut column => Sys2Proof.Machine.execLiftOut column s
  | .liftIn column => Sys2Proof.Machine.execLiftIn column s
  | .latchContactChange column contact made => Sys2Proof.Machine.execLatchContactChange column contact made s
  | .latchTravelTimeout column => Sys2Proof.Machine.execLatchTravelTimeout column s
  | .grantTimerExpiry column => Sys2Proof.Machine.execGrantTimerExpiry column s
  | .openTimerExpiry column => Sys2Proof.Machine.execOpenTimerExpiry column s
  | .latchRestExpiry column => Sys2Proof.Machine.execLatchRestExpiry column s
  | .ping => Sys2Proof.Machine.execPing s
  | .echo counter => Sys2Proof.Machine.execEcho counter s
  | .noEcho => Sys2Proof.Machine.execNoEcho s
  | .scanPauseExpiry => Sys2Proof.Machine.execScanPauseExpiry s
  | .supervisionTimerExpiry => Sys2Proof.Machine.execSupervisionTimerExpiry s
  | .settleTimerExpiry => Sys2Proof.Machine.execSettleTimerExpiry s
  | .startMark line => Sys2Proof.Machine.execStartMark line s

end Sys2Proof.Machine
end

