-- ==== Sys2Proof/WellFormed.lean ====
section
/-! DEFINITION. WellFormed: which commands a sender can give at all. -/

namespace Sys2Proof

/-- The request kinds of R163. -/
def requestKinds : List Byte :=
  [0x01, 0x02, 0x03, 0x04, 0x05, 0x06, 0x07, 0x08, 0x09] ++
  [0x10, 0x11, 0x12, 0x13, 0x14, 0x15, 0x16, 0x17, 0x18] ++
  [0x20, 0x21, 0x22, 0x23] ++ [0x30, 0x31, 0x32, 0x33, 0x34, 0x35] ++ [0x40, 0x41]

/-- A frame's length byte counts the kind and the body and is at most 240 (R160). -/
def bodyFits (body : List Byte) : Bool := body.length ≤ 239

/-- A body fits in a frame; UNKNOWN_KIND names a kind outside R163; the distance counter of an open
window stands below 4,000 (R87). -/
def Instr.wellFormed : Instr → Bool
  | .identify b | .status b | .restart b | .timeSet b | .periodSet b | .profileWrite b
  | .profileRead b | .alertFetch b | .alertFloor b | .tableWrite b | .tableData _ b
  | .tableVerify b | .tableErase b | .tableSum b | .tablePin b | .tableRelease b | .cardQuery b
  | .cardModify b | .columnRead b | .columnService b | .columnWithdraw b | .columnMeasure b
  | .roundOpen b | .roundClaim b | .roundSkip b | .roundKeep b | .roundClose b | .roundRead b
  | .journalRead b | .journalRelease b => bodyFits b
  | .unknownKind k => !requestKinds.contains k
  | .echo counter => decide (counter < 4000)
  | .softRestart | .checkError | .frameWhileRequestInHand | .frameDiscard _ _ | .interbyteGap _
  | .replySent | .transferWatchExpiry | .present _ _ | .readerFrameRejected _ | .verdictSent
  | .fullReset | .clockAdvance | .inputLevelChange _ _ _ | .hatchOpened _ | .hatchClosed _
  | .liftOut _ | .liftIn _ | .latchContactChange _ _ _ | .latchTravelTimeout _
  | .grantTimerExpiry _ | .openTimerExpiry _ | .latchRestExpiry _ | .ping | .noEcho
  | .scanPauseExpiry | .supervisionTimerExpiry | .settleTimerExpiry | .startMark _ => true

end Sys2Proof
end

