-- ==== Sys2Proof/Machine/Reception.lean ====
section
/-! DEFINITION. Reception: what a receiver makes of the bytes on its line: it hunts, holds the bytes of a frame in reception, judges it by position, and gives the command the frame is (R160, R161, R163, R166). -/

namespace Sys2Proof.Machine

open Sys2Proof

/-! ### A frame taken by position (R160) -/

/-- The start mark of the direction a line's receiver takes (R160). -/
def startMarkOf : Line → Byte
  | .host => 0xA1
  | .reader => 0xB1

/-- The end marks good for a kind (R160). -/
def goodEnd (line : Line) (kind mark : Byte) : Bool :=
  decide (mark = 0x0D) || (decide (line = .host) && decide (kind = 0x11) && decide (mark = 0x0C))

/-- The length byte counts the kind and the body, 1 to 240 (R160, R161). -/
def goodLength (length : Byte) : Bool := decide (1 ≤ length.toNat) && decide (length.toNat ≤ 240)

/-! ### The command a complete frame is (R162, R163, R166) -/

/-- The request of a kind of R163 with its body as received; any other kind is no request. -/
def requestOf (kind : Byte) (more : Bool) (body : List Byte) : Instr :=
  match kind.toNat with
  | 0x01 => .identify body
  | 0x02 => .status body
  | 0x03 => .restart body
  | 0x04 => .timeSet body
  | 0x05 => .periodSet body
  | 0x06 => .profileWrite body
  | 0x07 => .profileRead body
  | 0x08 => .alertFetch body
  | 0x09 => .alertFloor body
  | 0x10 => .tableWrite body
  | 0x11 => .tableData more body
  | 0x12 => .tableVerify body
  | 0x13 => .tableErase body
  | 0x14 => .tableSum body
  | 0x15 => .tablePin body
  | 0x16 => .tableRelease body
  | 0x17 => .cardQuery body
  | 0x18 => .cardModify body
  | 0x20 => .columnRead body
  | 0x21 => .columnService body
  | 0x22 => .columnWithdraw body
  | 0x23 => .columnMeasure body
  | 0x30 => .roundOpen body
  | 0x31 => .roundClaim body
  | 0x32 => .roundSkip body
  | 0x33 => .roundKeep body
  | 0x34 => .roundClose body
  | 0x35 => .roundRead body
  | 0x40 => .journalRead body
  | 0x41 => .journalRelease body
  | _ => .unknownKind kind

/-- A complete host frame, its check judged before its kind (R162). -/
def hostFrame (kind check mark : Byte) (body : List Byte) : Instr :=
  if check ≠ frameCheck kind body then .checkError
  else requestOf kind (decide (mark = 0x0C)) body

/-- A complete reader frame, examined in the order of R166. -/
def readerFrame (kind check : Byte) (body : List Byte) : Instr :=
  if check ≠ frameCheck kind body then .readerFrameRejected .badCheck
  else if kind ≠ 0x01 then .readerFrameRejected .badKind
  else
    match body with
    | [n, c3, c2, c1, c0] =>
      match columnOf n with
      | none => .readerFrameRejected .badColumn
      | some column => .present column (c3 ++ c2 ++ c1 ++ c0)
    | _ => .readerFrameRejected .badLength

/-- The frame a receiver has taken up to its end mark, as a command: `taken` is the kind, the body and
the check. -/
def completeFrame (line : Line) (kind mark : Byte) (taken : List Byte) : Instr :=
  let body := taken.dropLast
  let check := taken.getLastD 0
  match line with
  | .host => hostFrame kind check mark body
  | .reader => readerFrame kind check body

/-! ### The receiver (R161) -/

/-- A byte of the frame in reception: length, kind and body, check, end mark, by position (R161). -/
def takeByte (line : Line) (taken : List Byte) (b : Byte) : Receiver × Option Instr :=
  match taken with
  | [] => if goodLength b then (some [b], none) else (none, some (.frameDiscard line .badLength))
  | [_] => (some (taken ++ [b]), none)
  | length :: kind :: rest =>
    if rest.length < length.toNat then (some (taken ++ [b]), none)
    else if goodEnd line kind b then (none, some (completeFrame line kind b rest))
    else (none, some (.frameDiscard line .badEndMark))

/-- What a receiver holds after what it hears, and the command that comes of it (R161). -/
def hear (line : Line) (r : Receiver) (h : Heard) : Receiver × Option Instr :=
  match r, h with
  | none, .byte b => if b = startMarkOf line then (some [], some (.startMark line)) else (none, none)
  | none, _ => (none, none)
  | some taken, .byte b => takeByte line taken b
  | some _, .badStop => (none, some (.frameDiscard line .framingError))
  | some _, .gap => (none, some (.interbyteGap line))

/-- The commands that come of what a receiver hears, one after the other. -/
def hearAll (line : Line) : Receiver → List Heard → List Instr
  | _, [] => []
  | r, h :: hs => (hear line r h).2.toList ++ hearAll line (hear line r h).1 hs

/-- What a receiver holds after all it hears. -/
def receiverAfter (line : Line) (r : Receiver) (hs : List Heard) : Receiver :=
  hs.foldl (fun r h => (hear line r h).1) r

/-! ### What a line brings, in the part -/

/-- The receiver of a line, as its bytes go. -/
def State.receiver (s : State) (line : Line) : Receiver := (s.reception line).map (·.bytes)

/-- The receiver of a line after a byte, which is the last byte as of now. -/
def State.setReceiver (s : State) (line : Line) (r : Receiver) : State :=
  let frame := r.map fun bytes => { bytes := bytes, last := s.now }
  match line with
  | .host => { s with host := { s.host with frame := frame } }
  | .reader => { s with reader := { s.reader with frame := frame } }

/-- The reader receiver ignores its line while a verdict is sent (R159). -/
def State.deaf (s : State) (line : Line) : Bool :=
  decide (line = .reader) && s.reader.sending.isSome

/-- What a line brings is one event: a byte within a frame joins it, and every other is the command it
gives (R161). The command itself moves the receiver. -/
def arrive (line : Line) (h : Heard) (s : State) : Host.Outcome State Fault Refusal :=
  if s.deaf line then .next s
  else
    match hear line (s.receiver line) h with
    | (r, none) => .next (s.setReceiver line r)
    | (_, some i) => exec i s

/-- A line brings something more (log 4). -/
def State.receive (s : State) (line : Line) (heard : List Heard) : State :=
  { s with arriving := s.arriving ++ heard.map fun h => (line, h) }

end Sys2Proof.Machine
end

