-- ==== Sys2Proof/Machine/Tick.lean ====
section
/-! DEFINITION. Tick: what falls due on the time base, and what the part does while no command waits (log 1, 2, 18). -/

namespace Sys2Proof.Machine

open Sys2Proof

/-- One command where a moment has come. -/
def whenDue (now : Nat) (due : Option Nat) (i : Instr) : List Instr :=
  match due with
  | none => []
  | some t => if t ≤ now then [i] else []

/-- The moment at which a hold completes (R3). -/
def Filter.holdEnd (f : Filter) : Option Nat := f.hold.map (· + 20)

/-- The holds of a column that complete: the taken change of each of its inputs (R3). -/
def inputsDue (s : State) (c : Column) : List Instr :=
  let p := s.sups[c]
  whenDue s.now p.hatch.holdEnd (if p.hatch.pin then .hatchClosed c else .hatchOpened c) ++
    whenDue s.now p.lift.holdEnd (if p.lift.pin then .liftIn c else .liftOut c) ++
    whenDue s.now p.homeContact.holdEnd (.latchContactChange c .home p.homeContact.pin) ++
    whenDue s.now p.releasedContact.holdEnd (.latchContactChange c .released p.releasedContact.pin)

/-- The timers of a column that expire (R7, R71, R72, R73). -/
def timersDue (s : State) (c : Column) : List Instr :=
  whenDue s.now s.sups[c].travel (.latchTravelTimeout c) ++
    whenDue s.now s.access[c].grantTimer (.grantTimerExpiry c) ++
    whenDue s.now s.access[c].openTimer (.openTimerExpiry c) ++
    whenDue s.now s.access[c].rest (.latchRestExpiry c)

/-- The moment of the ping in hand, if it has not been fired (R86). -/
def Burst.pingDue (b : Burst) : Option Nat := if b.window.isNone then some b.pingTime else none

/-- The first whole millisecond at which the counter of the open window has reached 4,000 (R87). -/
def Burst.silence (b : Burst) : Option Nat := b.window.map fun w => w + (2 * windowEnd + 342) / 343

/-- The events of the ranging engine (R86, R87, R95). -/
def rangingDue (s : State) : List Instr :=
  whenDue s.now (s.ranging.burst.bind Burst.pingDue) .ping ++
    whenDue s.now (s.ranging.burst.bind Burst.silence) .noEcho ++
    whenDue s.now s.ranging.pause .scanPauseExpiry

/-- The moment at which a counting supervision timer has no time left (R115). -/
def Supervision.due : Supervision → Option Nat
  | .counting t => some t
  | .held _ => none

/-- The timers of the round and of a transfer (R115, R123, R165). -/
def roundDue (s : State) : List Instr :=
  whenDue s.now s.round.supervision.due .supervisionTimerExpiry ++
    whenDue s.now s.round.settleTimer .settleTimerExpiry ++
    whenDue s.now (s.host.transfer.map (·.watch)) .transferWatchExpiry

/-- The next advance of the clock (R45). -/
def clockDue (s : State) : List Instr :=
  whenDue s.now (some (s.clock.lastAdvance + 1000)) .clockAdvance

/-- The soft restart follows the end of the RESTART reply (R173). -/
def restartDue (s : State) : List Instr := if s.restarting then [.softRestart] else []

/-- The gap of a frame in reception (R161). -/
def gapDue (s : State) (line : Line) : List Instr :=
  whenDue s.now ((s.reception line).map Reception.gap) (.interbyteGap line)

/-- The gaps of both lines. -/
def gapsDue (s : State) : List Instr := gapDue s .host ++ gapDue s .reader

/-- The commands of all events due. -/
def dueEvents (s : State) : List Instr :=
  allColumns.flatMap (inputsDue s) ++ allColumns.flatMap (timersDue s) ++ rangingDue s ++
    roundDue s ++ clockDue s ++ gapsDue s ++ restartDue s

/-- One of the events due, whichever a draw gives: nothing constrains it (log 18). -/
def pickDue (draw : Nat) (l : List Instr) : Option Instr := l[draw % l.length]?

/-- An event due is taken: a command of the table, but of a restart only the next block's event (R173). -/
def takeDue (i : Instr) (s : State) : Host.Outcome State Fault Refusal :=
  if i = .softRestart then .next (restartNext s) else exec i s

/-- The oldest of what the lines bring is heard; where the gap has passed on its line, the frame in
reception is discarded first and the late byte is left for the hunt (R161). -/
def hearNext (line : Line) (h : Heard) (rest : List (Line × Heard)) (s : State) :
    Host.Outcome State Fault Refusal :=
  match gapDue s line with
  | i :: _ => exec i s
  | [] => arrive line h { s with arriving := rest }

/-- What the part does while no command waits (log 1): a choice due is made, else the oldest of what the
lines bring is heard, else one of the events due is taken, else a millisecond passes. The events due are
found afresh for each, so an event whose timer another has stopped or started afresh is not taken (R6, R7,
R115). -/
def tick (s : State) : Host.Outcome State Fault Refusal :=
  if s.ranging.choiceDue then .next (chooseNext s)
  else
    match s.arriving with
    | (line, h) :: rest => hearNext line h rest s
    | [] =>
      match pickDue (Config.tieOrder s.draws) (dueEvents s) with
      | none => .next { s with now := s.now + 1 }
      | some i => takeDue i { s with draws := s.draws + 1 }

end Sys2Proof.Machine
end

