-- ==== Sys2Proof/Safety.lean ====
section
/-! DEFINITION. Safety: the laws of the part that the rules own, as predicates on a state or on a step, and the shapes in which a request is answered. -/

namespace Sys2Proof

/-! ### Requests as frames (R160, R163) -/

/-- The kind byte and body of a request (R163). -/
def Instr.request : Instr → Option (Byte × List Byte)
  | .identify b => some (0x01, b)
  | .status b => some (0x02, b)
  | .restart b => some (0x03, b)
  | .timeSet b => some (0x04, b)
  | .periodSet b => some (0x05, b)
  | .profileWrite b => some (0x06, b)
  | .profileRead b => some (0x07, b)
  | .alertFetch b => some (0x08, b)
  | .alertFloor b => some (0x09, b)
  | .tableWrite b => some (0x10, b)
  | .tableData _ b => some (0x11, b)
  | .tableVerify b => some (0x12, b)
  | .tableErase b => some (0x13, b)
  | .tableSum b => some (0x14, b)
  | .tablePin b => some (0x15, b)
  | .tableRelease b => some (0x16, b)
  | .cardQuery b => some (0x17, b)
  | .cardModify b => some (0x18, b)
  | .columnRead b => some (0x20, b)
  | .columnService b => some (0x21, b)
  | .columnWithdraw b => some (0x22, b)
  | .columnMeasure b => some (0x23, b)
  | .roundOpen b => some (0x30, b)
  | .roundClaim b => some (0x31, b)
  | .roundSkip b => some (0x32, b)
  | .roundKeep b => some (0x33, b)
  | .roundClose b => some (0x34, b)
  | .roundRead b => some (0x35, b)
  | .journalRead b => some (0x40, b)
  | .journalRelease b => some (0x41, b)
  | _ => none

/-- The frame of a TABLE DATA request ends with 0x0C, more follows (R160). -/
def Instr.moreFollows : Instr → Bool
  | .tableData more _ => more
  | _ => false

/-- A complete host frame: a request, or one of the frames of R162 that is none. -/
def Instr.isHostFrame : Instr → Bool
  | .checkError | .unknownKind _ | .frameWhileRequestInHand => true
  | i => i.request.isSome

/-- The lengths of a body that a request kind allows (R163); TABLE DATA's and ROUND OPEN's further
conditions are stated beside them. -/
def Instr.lengthAllowed : Instr → Bool
  | .identify b | .status b | .restart b | .tableRelease b | .roundKeep b | .roundClose b
  | .roundRead b => decide (b.length = 0)
  | .profileRead b | .alertFetch b | .alertFloor b | .columnRead b | .columnService b
  | .columnWithdraw b | .columnMeasure b | .roundClaim b | .roundSkip b => decide (b.length = 1)
  | .periodSet b | .tableWrite b | .tableVerify b | .tableErase b | .tableSum b | .tablePin b
  | .journalRead b | .journalRelease b => decide (b.length = 2)
  | .cardQuery b => decide (b.length = 4)
  | .timeSet b => decide (b.length = 5)
  | .cardModify b => decide (b.length = 6)
  | .profileWrite b => decide (3 ≤ b.length) && decide (b.length ≤ 239)
  | .tableData more b =>
    decide (b.length % 12 = 0) && decide (b.length ≤ 96) && !(more && decide (b.length = 0))
  | .roundOpen b => decide (7 ≤ b.length) && decide (b.length = 7 + (b.getD 6 0).toNat)
  | _ => true

namespace Machine

/-- The state after a request that has changed nothing but is in hand with its reply (R162). -/
def State.answered (s : State) (kind : Byte) (body : List Byte) : State :=
  { s with host := { s.host with
      frame := none,
      inHand := some { reply := { kind := kind, body := body }, restart := false, sent := false } } }

/-- A reply stands in hand and is going out. -/
def State.replies (s : State) (kind : Byte) (body : List Byte) : Prop :=
  s.host.inHand =
    some { reply := { kind := kind, body := body }, restart := false, sent := false }

/-- Staged entry `i` offends by its card number: an earlier staged entry has it, or a used slot of
another live block holds it (R27). -/
def offends (t : CardTable) (b : Fin 64) (staged : List RawEntry) (i : Nat) : Prop :=
  ∃ r, staged[i]? = some r ∧
    ((∃ j, j < i ∧ ∃ q, staged[j]? = some q ∧ q.card = r.card) ∨
      ∃ k : Fin 64, k ≠ b ∧ ∃ e ∈ t.blocks[k].entries, e.host.card = r.card)

/-- The canonical form of slot `i` of a block (R32). -/
def Block.slot (b : Block) (i : Nat) : RawEntry :=
  match b.entries[i]? with
  | none => RawEntry.zero
  | some e => e.host.canonical

/-- The engine has made its choice: a burst is in progress or the scan pause runs. Every state is such
but after a reset (R91, R107, R108; log 7). -/
abbrev State.chosen (s : State) : Prop :=
  s.ranging.burst.isSome = true ∨ s.ranging.pause.isSome = true

/-- A burst abandoned on a column puts it back into the forced queue, at the front for purpose EMPTYING
and else at the tail unless it stands there (R89), from which the engine, free again, takes the first
eligible column (R91). -/
def PutBack (c : Column) (s t : State) : Prop :=
  ∀ b, s.ranging.burst = some b → b.column = c →
    let back :=
      if b.purpose = .emptying then c :: s.ranging.queue.erase c
      else if c ∈ s.ranging.queue then s.ranging.queue
      else s.ranging.queue ++ [c]
    ((∀ k ∈ back, eligible t k = false) → t.ranging.queue = back ∧
      ∀ d, t.ranging.burst = some d → d.purpose = .scan) ∧
    (∀ before k after, back = before ++ k :: after → (∀ j ∈ before, eligible t j = false) →
      eligible t k = true →
      t.ranging.queue = before ++ after ∧ ∃ d, t.ranging.burst = some d ∧ d.column = k)

/-! ### Laws of the part -/

/-- R150: at most 32 entries, no two sharing kind and column. -/
def AlertLaw (s : State) : Prop :=
  s.alerts.entries.length ≤ 32 ∧ (s.alerts.entries.map fun e => (e.kind, e.column)).Nodup

/-- R92 and R98: the forced queue holds each column at most once, and estimates lie in 0 to 200. R94 and
R95: the scan pointer waits at 0 while the pause runs, and a SCAN burst is on the column at the pointer
with the pause stopped. -/
def RangingLaw (s : State) : Prop :=
  s.ranging.queue.Nodup ∧ (∀ c : Column, s.fills[c].estimate ≤ 200) ∧
    (s.ranging.pause.isSome = true → s.ranging.pointer = 0) ∧
    (∀ b, s.ranging.burst = some b → b.purpose = .scan →
      s.ranging.pause = none ∧ b.column = s.ranging.pointer)

/-- The card numbers of the used slots, block by block. -/
def CardTable.cards (t : CardTable) : List CardNumber :=
  (List.finRange 64).flatMap fun b => t.blocks[b].entries.map (·.host.card)

/-- R28: no card number in two used slots and none 0; R19: at most 64 slots in a block and in the
staging block; R41: the table is empty while provisional access is in force; R54: remaining is at
most the allowance. -/
def TableLaw (s : State) : Prop :=
  s.table.cards.Nodup ∧ (0 : CardNumber) ∉ s.table.cards ∧ s.table.staged.length ≤ 64 ∧
    (∀ b : Fin 64, s.table.blocks[b].entries.length ≤ 64) ∧
    (s.table.provisional = true → s.table.cards = []) ∧
    (∀ b : Fin 64, ∀ e ∈ s.table.blocks[b].entries, e.remaining ≤ e.host.allowance)

/-- R135 and R144: sequence numbers rise by one up to the next one, and the read mark is within the
records held. -/
def JournalOrderLaw (s : State) : Prop :=
  s.journal.readMark ≤ s.journal.records.length ∧
    ∀ i, (h : i < s.journal.records.length) →
      s.journal.records[i].seq + BitVec.ofNat 32 (s.journal.records.length - i) = s.journal.nextSeq

/-- R111: a manifest lists no column twice and has at most one ACTIVE entry; outside OPEN every entry
is DONE. -/
def RoundLaw (s : State) : Prop :=
  (s.round.manifest.map (·.column)).Nodup ∧
    (s.round.manifest.filter fun e => decide (e.status = .active)).length ≤ 1 ∧
    (s.round.state ≠ .open → ∀ e ∈ s.round.manifest, e.status = .done)

/-- The access state of a machine whose grant has not yet ended (07 7.3). -/
def AccessState.inGrant : AccessState → Bool
  | .releasing | .awaitOpen | .open => true
  | .locked | .homing => false

/-- The grants that hold a reservation (07 7.3). -/
def grantsHolding (s : State) : Nat :=
  (allColumns.filter fun c => s.access[c].context.isSome && s.access[c].state.inGrant).length

/-- The manifest entries that are not DONE, each of which holds a reservation (R111). -/
def entriesOwing (s : State) : Nat :=
  (s.round.manifest.filter fun e => decide (e.status ≠ .done)).length

/-- R139 with the count of 07 7.3: reservations are those of grants and entries, and records plus
reservations never exceed 2,048. -/
def JournalLaw (s : State) : Prop :=
  RoundLaw s ∧ s.journal.reservations = grantsHolding s + entriesOwing s ∧ s.journal.sum ≤ 2048

/-- R12: a permit is asserted only while the round is OPEN and the column's entry is ACTIVE in stage
PERMITTED or LIFTED, hence on at most one column, and never beside a grant context; a LOCKED machine
holds no context (R77). -/
def PermitLaw (s : State) : Prop :=
  RoundLaw s ∧
    (∀ c : Column, s.sups[c].permit = true →
      s.round.state = .open ∧ (s.round.inStage c .permitted = true ∨ s.round.inStage c .lifted = true) ∧
        s.access[c].context = none) ∧
    (∀ c : Column, s.access[c].state = .locked → s.access[c].context = none)

/-- The table of 01 1.3: a drive belongs to a travel in its direction and the travel timer runs exactly
with a drive; a DISABLED column drives no latch (R1), and its machine stays LOCKED with no latch rest
(R57, R71). -/
def LatchLaw (s : State) : Prop :=
  ∀ c : Column,
    (s.sups[c].drive = .towardReleased → s.sups[c].latch = .releasing) ∧
      (s.sups[c].drive = .towardHome → s.sups[c].latch = .homing) ∧
      (s.sups[c].drive = .off ↔ s.sups[c].travel = none) ∧
      (s.sups[c].condition = .disabled →
        s.sups[c].drive = .off ∧ s.access[c].state = .locked ∧ s.access[c].rest = none)

/-- A column's items in their ranges and relations (09 9.7, R170). -/
def ColumnProfile.legal (blanking : Nat) (p : ColumnProfile) : Prop :=
  blanking + 50 ≤ p.fullDistance ∧ p.fullDistance + 100 ≤ p.emptyDistance ∧
    p.emptyDistance ≤ 3900 ∧ p.increment ≤ 20 ∧
    (∀ w, p.quietWindow = some w → w.1 ≤ 1439 ∧ w.2 ≤ 1439 ∧ w.1 ≠ w.2)

/-- Every item in its range, and the relations of R170 (09 9.7). -/
def ProfileLaw (s : State) : Prop :=
  let p := s.profile
  (1 ≤ p.rangeLow ∧ p.rangeLow ≤ p.rangeHigh ∧ p.rangeHigh ≤ 0xFFFFFFFF) ∧
    (1 ≤ p.nearFull ∧ p.nearFull < p.full ∧ p.full ≤ 200) ∧
    (1 ≤ p.normalInterval ∧ p.normalInterval ≤ 15) ∧
    (1 ≤ p.nearFullInterval ∧ p.nearFullInterval ≤ 15) ∧
    (1 ≤ p.fullInterval ∧ p.fullInterval ≤ 15) ∧
    (2 ≤ p.scanPause ∧ p.scanPause ≤ 600) ∧
    (5 ≤ p.spreadTolerance ∧ p.spreadTolerance ≤ 250) ∧
    (100 ≤ p.blanking ∧ p.blanking ≤ 500) ∧
    (5 ≤ p.grantLimit ∧ p.grantLimit ≤ 60) ∧
    (20 ≤ p.hatchOpenLimit ∧ p.hatchOpenLimit ≤ 600) ∧
    (60 ≤ p.crewOpenLimit ∧ p.crewOpenLimit ≤ 3600) ∧
    (300 ≤ p.travelLimit ∧ p.travelLimit ≤ 2000) ∧
    (5 ≤ p.settleTime ∧ p.settleTime ≤ 120) ∧
    (60 ≤ p.keepTime ∧ p.keepTime ≤ 1800) ∧
    (1 ≤ p.remeasure ∧ p.remeasure ≤ 15) ∧
    (∀ c : Column, (p.columns[c]).legal p.blanking)

/-- The host-loaded fields of an entry before and after a step on a pinned block: equal, or the blocked
flag gone from clear to set (R37). -/
def HostFields.pinnedStep (old new : HostFields) : Prop :=
  new = old ∨ (old.blocked = false ∧ new = { old with blocked := true })

/-- R37 as a law of one step: a block pinned before it keeps its pin and its host-loaded fields, but
for a card blocked. -/
def PinnedKept (s t : State) : Prop :=
  ∀ b : Fin 64, s.table.blocks[b].pinned = true →
    t.table.blocks[b].pinned = true ∧
      List.Forall₂ HostFields.pinnedStep (s.table.blocks[b].entries.map (·.host))
        (t.table.blocks[b].entries.map (·.host))

end Machine

end Sys2Proof
end

