-- ==== Sys2Proof/Certificates/Slice0/Obligations.lean ====
section
/-! DEFINITION. Obligations: what the rules say the part does, as statements for the provers. -/

open Sys2Proof Sys2Proof.Machine

/-! ### A step -/

/-- A step runs the command at the front of the queue on the state with the queue's rest. -/
def Obligations.StepRunsFrontCommand : Prop :=
  ∀ (c : Instr) (rest : List Instr) (s : State),
    step { s with pending := c :: rest } = exec c { s with pending := rest }

/-- On an empty queue the engine's choice comes first where it is due, then the oldest of what the lines
bring is heard, else one of the events due is taken, whichever it be, else a millisecond passes; a
restart in progress goes on by one block. Where more than 50 ms have passed since the last byte of a
frame in reception, the gap discards it before the late byte is heard (R161). That this is what the part
does there is the model's own choice, log 1, 4, 7, 9 and 18. An event is due when its timer has come to
its moment: the travel, grant and open timers and the latch rest (R7, R71, R72, R73), the ping in hand
at 60, 120 or 180 ms, the end of its window and the scan pause (R86, R87, R95), the supervision timer
while it counts, the settle timer and the transfer watch (R115, R123, R165), the interbyte gap (R161),
and the clock 1,000 ms after its last advance (R45); the soft restart is due from the end of its reply
until it is complete (R173). The form of a timer and the window's last millisecond are the model's own,
log 2, 17 and 22. -/
def Obligations.EmptyQueuePassesOneMillisecond : Prop :=
  (∀ s : State, s.pending = [] →
    (¬s.chosen → step s = .next (chooseNext s)) ∧
    (s.chosen →
      (∀ line h rest, s.arriving = (line, h) :: rest →
        ((∃ r, s.reception line = some r ∧ r.last + 51 ≤ s.now) →
          step s = exec (.interbyteGap line) s) ∧
        ((∀ r, s.reception line = some r → s.now < r.last + 51) →
          step s = arrive line h { s with arriving := rest })) ∧
      (s.arriving = [] → dueEvents s = [] → step s = .next { s with now := s.now + 1 }) ∧
      (s.arriving = [] → dueEvents s ≠ [] → ∃ i ∈ dueEvents s,
        (i ≠ .softRestart → step s = exec i { s with draws := s.draws + 1 }) ∧
        (i = .softRestart → step s = .next (restartNext { s with draws := s.draws + 1 }))))) ∧
  (∀ s : State,
    (∀ c : Column,
      (.latchTravelTimeout c ∈ dueEvents s ↔ ∃ t, s.sups[c].travel = some t ∧ t ≤ s.now) ∧
      (.grantTimerExpiry c ∈ dueEvents s ↔ ∃ t, s.access[c].grantTimer = some t ∧ t ≤ s.now) ∧
      (.openTimerExpiry c ∈ dueEvents s ↔ ∃ t, s.access[c].openTimer = some t ∧ t ≤ s.now) ∧
      (.latchRestExpiry c ∈ dueEvents s ↔ ∃ t, s.access[c].rest = some t ∧ t ≤ s.now)) ∧
    (.ping ∈ dueEvents s ↔ ∃ b, s.ranging.burst = some b ∧ b.window = none ∧
      b.start + 60 * (b.results.length + 1) ≤ s.now) ∧
    (.noEcho ∈ dueEvents s ↔ ∃ b, s.ranging.burst = some b ∧ ∃ w, b.window = some w ∧
      w + 24 ≤ s.now) ∧
    (.scanPauseExpiry ∈ dueEvents s ↔ ∃ t, s.ranging.pause = some t ∧ t ≤ s.now) ∧
    (.supervisionTimerExpiry ∈ dueEvents s ↔
      ∃ t, s.round.supervision = .counting t ∧ t ≤ s.now) ∧
    (.settleTimerExpiry ∈ dueEvents s ↔ ∃ t, s.round.settleTimer = some t ∧ t ≤ s.now) ∧
    (.transferWatchExpiry ∈ dueEvents s ↔
      ∃ x, s.host.transfer = some x ∧ x.watch ≤ s.now) ∧
    (∀ line, .interbyteGap line ∈ dueEvents s ↔
      ∃ r, s.reception line = some r ∧ r.last + 51 ≤ s.now) ∧
    (.clockAdvance ∈ dueEvents s ↔ s.clock.lastAdvance + 1000 ≤ s.now) ∧
    (.softRestart ∈ dueEvents s ↔
      ∃ h, s.host.inHand = some h ∧ h.restart = true ∧ h.sent = true))

/-- Every command of the table completes in every state, and leaves the queue, the draws and what the lines
still bring alone, but that a full reset takes no byte brought before its end (R174). That an event whose
premise does not stand completes is the model's choice, log 3; so is that the queue and the draws stay, also
over FULL_RESET, and that arriving is the world's to fill, log 4, 18, 25 and 26. -/
def Obligations.EveryCommandCompletes : Prop :=
  ∀ (c : Instr) (s : State), ∃ t, exec c s = .next t ∧ t.pending = s.pending ∧ t.draws = s.draws ∧
    t.arriving = if c = .fullReset then [] else s.arriving

/-! ### Host link and reader line (09 9.2 to 9.5) -/

/-- What no command but its own changes: the clock, the period, the profile, the table, the journal's
records and read mark, the floor, the link's count and transfer, the round's state, the fills, and for
an event of one column every other column. -/
def Obligations.OnlyTheirCommandsChangeThem : Prop :=
  ∀ (c : Instr) (s t : State), exec c s = .next t →
    (match c with
      | .timeSet _ | .clockAdvance | .fullReset => True
      | _ => t.clock = s.clock) ∧
    (match c with
      | .periodSet _ | .fullReset => True
      | _ => t.period = s.period) ∧
    (match c with
      | .profileWrite _ | .fullReset => True
      | _ => t.profile = s.profile) ∧
    (c.isHostFrame = true → t.now = s.now ∧ t.reader.frame = s.reader.frame) ∧
    (match c with
      | .tableData _ _ | .tableErase _ | .tablePin _ | .tableRelease _ | .cardModify _
      | .fullReset => True
      | _ =>
        t.table.provisional = s.table.provisional ∧
          ∀ b : Fin 64, t.table.blocks[b].pinned = s.table.blocks[b].pinned ∧
            t.table.blocks[b].entries.map (·.host) = s.table.blocks[b].entries.map (·.host)) ∧
    (match c with
      | .journalRelease _ | .fullReset => True
      | _ => s.journal.records <+: t.journal.records) ∧
    (match c with
      | .journalRead _ | .journalRelease _ | .fullReset => True
      | _ => t.journal.readMark = s.journal.readMark) ∧
    (match c with
      | .alertFloor _ | .fullReset => True
      | _ => t.alerts.floor = s.alerts.floor) ∧
    (match c with
      | .alertFetch _ | .softRestart | .fullReset => True
      | _ => s.alerts.dropped ≤ 255 → s.alerts.dropped ≤ t.alerts.dropped) ∧
    (match c with
      | .tableWrite _ | .tableVerify _ | .tableData _ _ | .transferWatchExpiry | .softRestart
      | .fullReset => True
      | _ => t.host.transfer = s.host.transfer) ∧
    (match c with
      | .checkError | .frameWhileRequestInHand | .frameDiscard .host _ | .interbyteGap .host
      | .fullReset => True
      | _ => c.isHostFrame = true ∧ s.host.inHand.isSome = true ∨
          t.host.linkErrors = s.host.linkErrors) ∧
    (match c with
      | .roundOpen _ | .roundClose _ | .supervisionTimerExpiry | .softRestart | .fullReset => True
      | _ => t.round.state = s.round.state ∧ t.round.id = s.round.id) ∧
    (match c with
      | .hatchClosed _ | .echo _ | .noEcho | .profileWrite _ | .softRestart | .fullReset => True
      | _ => t.fills = s.fills) ∧
    (match c with
      | .present k _ | .inputLevelChange k _ _ | .hatchOpened k | .hatchClosed k | .liftOut k
      | .liftIn k | .latchContactChange k _ _ | .latchTravelTimeout k | .grantTimerExpiry k
      | .openTimerExpiry k | .latchRestExpiry k =>
        ∀ j : Column, j ≠ k →
          t.sups[j] = s.sups[j] ∧ t.access[j] = s.access[j] ∧ t.fills[j] = s.fills[j] ∧
            t.ranging.heads[j].last = s.ranging.heads[j].last
      | _ => True)

/-- A complete host frame taken while a request is in hand is discarded and counted. The discard
before the check is examined is log 5. -/
def Obligations.BusyLinkDiscardsFrame : Prop :=
  ∀ (c : Instr) (s : State), s.chosen → c.isHostFrame = true → s.host.inHand.isSome = true →
    exec c s = .next { s with host := { s.host with
      frame := none, linkErrors := min 65535 (s.host.linkErrors + 1) } }

/-- The first three cases of R162: CHECK ERROR with the count raised, UNKNOWN KIND with the kind
byte, BAD LENGTH with nothing changed. That the receiver hunts after the frame is log 4, here and
in every answered request. -/
def Obligations.BadFramesAnswered : Prop :=
  ∀ s : State, s.chosen → s.host.inHand = none →
    exec .checkError s = .next
      { s.answered 0xFF [0x01] with host := { (s.answered 0xFF [0x01]).host with
          linkErrors := min 65535 (s.host.linkErrors + 1) } } ∧
    (∀ k, exec (.unknownKind k) s = .next (s.answered 0xFF [0x02, k])) ∧
    (∀ (c : Instr) (k : Byte) (body : List Byte), c.request = some (k, body) →
      c.lengthAllowed = false → exec c s = .next (s.answered (k + 0x80) [0x03]))

/-- The two lines. A start mark begins a frame in reception, but the reader receiver ignores the line
while a verdict is sent; a frame in reception is discarded by any cause, or when more than 50 ms have
passed since its last byte, counted on the host link only (R161). The end mark of a reply frees the
link, but a RESTART stays in hand (R162, R173); verdicts go out one at a time when the reader line is
free, and a seventeenth waiting one is not kept (R167). A discard with no frame in reception is log 3
and 24, a reader frame during a verdict log 10. The bytes of a frame spell its command: a hunting
receiver takes a start mark and then a frame by position; a length byte outside 1 to 240 or an end mark
not good for the kind discards it; a complete host frame whose check does not match is CHECK ERROR, one
of no request kind UNKNOWN KIND, and every other is the request with its body; a complete reader frame
fails by the first test of R166 or is a PRESENT; a gap or a framing error discards a frame begun, and
the hunt goes on after it (R159, R160, R161, R163). What a line brings is one event: a byte within a
frame joins it in the receiver, and every other is the command it gives, which moves the receiver as
R161 has it; bytes brought in two parts give what they give in one; the reader receiver is deaf while a
verdict is sent (R159). What goes out is the frame of the reply on HTX and of the VERDICT on RTX, with
its code, its layout and its check, and RDIR is driven just then (R66, R159, R160, R162, R167, R175).
That a command is a whole frame, and the whole milliseconds in which a gap is measured, are log 4. -/
def Obligations.LinesReceiveAndSend : Prop :=
  (∀ s : State, s.chosen →
    let begun (frame : Option Reception) : Option Reception :=
      if frame.isSome then frame else some { bytes := [], last := s.now }
    exec (.startMark .host) s =
      .next { s with host := { s.host with frame := begun s.host.frame } } ∧
    exec (.startMark .reader) s = .next
      (if s.reader.sending.isSome then s
       else { s with reader := { s.reader with frame := begun s.reader.frame } }) ∧
    (∀ cause, exec (.frameDiscard .host cause) s = .next
      (if s.host.frame.isSome then { s with host := { s.host with
          frame := none, linkErrors := min 65535 (s.host.linkErrors + 1) } }
       else s)) ∧
    (∀ cause, s.reader.frame = none → exec (.frameDiscard .reader cause) s = .next s) ∧
    (∀ cause, s.reader.frame.isSome = true → s.reader.sending = none →
      exec (.frameDiscard .reader cause) s = .next
        { s with reader :=
            match s.reader.waiting with
            | [] => { s.reader with frame := none }
            | v :: vs => { frame := none, waiting := vs, sending := some v } }) ∧
    (∀ line, s.reception line = none → exec (.interbyteGap line) s = .next s) ∧
    (∀ line cause r, s.reception line = some r →
      exec (.interbyteGap line) s =
        exec (.frameDiscard line cause) { s with now := max s.now (r.last + 51) })) ∧
  ((∀ (s : State) (h : InHand), s.chosen → s.host.inHand = some h →
    exec .replySent s = .next { s with host := { s.host with
      inHand := if h.restart then some { h with sent := true } else none } }) ∧
  (∀ (s : State) (v : Verdict), s.chosen → s.reader.sending = some v → s.reader.frame = none →
    exec .verdictSent s = .next
      { s with reader :=
          match s.reader.waiting with
          | [] => { s.reader with sending := none }
          | w :: ws => { s.reader with waiting := ws, sending := some w } }) ∧
  (∀ (s : State) (cause : RejectCause), s.chosen → s.reader.sending = none →
    exec (.readerFrameRejected cause) s = .next
      { s with reader :=
          match s.reader.waiting with
          | [] => { s.reader with frame := none }
          | w :: ws => { frame := none, waiting := ws, sending := some w } }) ∧
  (∀ (s : State) (v : Verdict), (s.reader.frame.isSome = true ∨ s.reader.sending.isSome = true) →
    handVerdict v s =
      if s.reader.waiting.length < 16 then
        { s with reader := { s.reader with waiting := s.reader.waiting ++ [v] } }
      else s) ∧
  (∀ (s : State) (v : Verdict), s.reader.frame = none → s.reader.sending = none →
    s.reader.waiting = [] →
    handVerdict v s = { s with reader := { s.reader with sending := some v } })) ∧
  (∀ (kind check mark : Byte) (body : List Byte) (rest : List Heard), body.length ≤ 239 →
    let sum := byte (body.length + 1) + kind + body.foldl (· + ·) 0 + check
    let heard (start : Byte) := (([start, byte (body.length + 1), kind] ++ body ++
      [check, mark]).map Heard.byte) ++ rest
    let hostGives (c : Instr) : Prop :=
      hearAll .host none (heard 0xA1) = [.startMark .host, c] ++ hearAll .host none rest
    let readerGives (c : Instr) : Prop :=
      hearAll .reader none (heard 0xB1) = [.startMark .reader, c] ++ hearAll .reader none rest
    let hostEnd := mark = 0x0D ∨ mark = 0x0C ∧ kind = 0x11
    (¬hostEnd → hostGives (.frameDiscard .host .badEndMark)) ∧
    (hostEnd → sum ≠ 0 → hostGives .checkError) ∧
    (hostEnd → sum = 0 → requestKinds.contains kind = false → hostGives (.unknownKind kind)) ∧
    (hostEnd → sum = 0 → ∀ c : Instr, c.request = some (kind, body) →
      c.moreFollows = decide (mark = 0x0C) → hostGives c) ∧
    (mark ≠ 0x0D → readerGives (.frameDiscard .reader .badEndMark)) ∧
    (mark = 0x0D → sum ≠ 0 → readerGives (.readerFrameRejected .badCheck)) ∧
    (mark = 0x0D → sum = 0 → kind ≠ 0x01 → readerGives (.readerFrameRejected .badKind)) ∧
    (mark = 0x0D → sum = 0 → kind = 0x01 → body.length ≠ 5 →
      readerGives (.readerFrameRejected .badLength)) ∧
    (∀ n c3 c2 c1 c0 : Byte, mark = 0x0D → sum = 0 → kind = 0x01 → body = [n, c3, c2, c1, c0] →
      (12 ≤ n.toNat → readerGives (.readerFrameRejected .badColumn)) ∧
      ∀ c : Column, n.toNat = c.val → readerGives (.present c (c3 ++ c2 ++ c1 ++ c0)))) ∧
  (∀ (line : Line) (rest : List Heard),
    let start : Byte := match line with
      | .host => 0xA1
      | .reader => 0xB1
    (∀ b : Byte, b ≠ start → hearAll line none (.byte b :: rest) = hearAll line none rest) ∧
    (∀ h : Heard, h = .gap ∨ h = .badStop →
      hearAll line none (h :: rest) = hearAll line none rest) ∧
    (∀ n : Byte, n.toNat = 0 ∨ 240 < n.toNat →
      hearAll line none (.byte start :: .byte n :: rest) =
        [.startMark line, .frameDiscard line .badLength] ++ hearAll line none rest) ∧
    (∀ (n : Byte) (begun : List Byte), 1 ≤ n.toNat → n.toNat ≤ 240 → begun.length ≤ n.toNat + 1 →
      hearAll line none ((start :: n :: begun).map Heard.byte ++ .gap :: rest) =
          [.startMark line, .interbyteGap line] ++ hearAll line none rest ∧
        hearAll line none ((start :: n :: begun).map Heard.byte ++ .badStop :: rest) =
          [.startMark line, .frameDiscard line .framingError] ++ hearAll line none rest)) ∧
  (∀ (s : State) (line : Line) (h : Heard),
    (line = .reader → s.reader.sending = none) →
    (hear line (s.receiver line) h).1 = receiverAfter line (s.receiver line) [h] ∧
    ((hear line (s.receiver line) h).2 = none →
      arrive line h s = .next (s.setReceiver line (hear line (s.receiver line) h).1)) ∧
    (∀ c, (hear line (s.receiver line) h).2 = some c →
      arrive line h s = exec c s ∧
        ∃ t, exec c s = .next t ∧ t.receiver line = (hear line (s.receiver line) h).1)) ∧
  (∀ (s : State) (line : Line) (r : Receiver),
    (s.setReceiver line r).reception line = r.map fun bytes => { bytes := bytes, last := s.now }) ∧
  (∀ (s : State) (h : Heard), s.reader.sending.isSome = true → arrive .reader h s = .next s) ∧
  (∀ (line : Line) (r : Receiver) (a b : List Heard),
    hearAll line r (a ++ b) = hearAll line r a ++ hearAll line (receiverAfter line r a) b) ∧
  (∀ s : State,
    ((s.host.inHand = none ∨ ∃ h, s.host.inHand = some h ∧ h.sent = true) → s.htx = none) ∧
    (∀ h, s.host.inHand = some h → h.sent = false →
      let length := byte (h.reply.body.length + 1)
      ∃ check : Byte,
        s.htx = some ([0xA2, length, h.reply.kind] ++ h.reply.body ++ [check, 0x0D]) ∧
        length + h.reply.kind + h.reply.body.foldl (· + ·) 0 + check = 0) ∧
    (s.reader.sending = none → s.rdir = false ∧ s.rtx = none) ∧
    (∀ v, s.reader.sending = some v → v.remaining = none ∨ v.redirect = none →
      let code : Byte :=
        match v.code with
        | .grant => 0x00
        | .serviceGrant => 0x01
        | .outOfService => 0x10
        | .busy => 0x11
        | .round => 0x12
        | .unknownCard => 0x13
        | .blocked => 0x14
        | .wrongFraction => 0x15
        | .notHere => 0x16
        | .quietHours => 0x17
        | .full => 0x18
        | .quotaSpent => 0x19
        | .journalFull => 0x1A
        | .fault => 0x20
        | .lapsed => 0x21
        | .cancelled => 0x22
      let body : List Byte :=
        match v.remaining, v.redirect with
        | some n, _ => [byte v.column.val, code, byte n]
        | none, some k => [byte v.column.val, code, byte k.val]
        | none, none => [byte v.column.val, code]
      s.rdir = true ∧
        ∃ check : Byte,
          s.rtx = some ([0xB2, byte (body.length + 1), 0x02] ++ body ++ [check, 0x0D]) ∧
          byte (body.length + 1) + 0x02 + body.foldl (· + ·) 0 + check = 0))

/-! ### The part as a whole (09 9.6 to 9.8) -/

/-- IDENTIFY, STATUS, PROFILE READ, COLUMN READ and ROUND READ answer from the state as it stands, and
change nothing else. -/
def Obligations.ReadsChangeNothing : Prop :=
  ∀ s : State, s.chosen → s.host.inHand = none →
    exec (.identify []) s = .next
      (s.answered 0x81 [0x00, 0x5C, 0x0C, 1, 12, 0x10, 0x00, 0x08, 0x00, 32]) ∧
    exec (.status []) s = .next
      (s.answered 0x82
        ([0x00, byte (bit 0 s.table.provisional + bit 1 s.clock.timeSet +
            bit 2 s.host.transfer.isSome)] ++
          bytes 2 s.period.toNat ++ bytes 2 s.journal.records.length ++
          bytes 2 s.journal.reservations ++ bytes 2 s.journal.readMark ++
          [byte s.alerts.entries.length, byte s.alerts.dropped, byte s.round.state.code] ++
          bytes 2 s.host.linkErrors ++
          (match s.host.transfer with
            | none => [0xFF, 0xFF]
            | some x => [byte x.block.val, byte x.delivered]) ++
          allColumns.flatMap fun c =>
            [byte s.sups[c].condition.code, byte s.fills[c].band.code])) ∧
    (∀ sel : Byte, exec (.profileRead [sel]) s = .next
      (s.answered 0x87
        (if sel = 0xFF then 0x00 :: s.profile.globalItems.flatMap (settingBytes 0xFF)
         else if h : sel.toNat < 12 then
           0x00 :: (s.profile.columns[sel.toNat]'h).items.flatMap (settingBytes sel)
         else [0x04]))) ∧
    (∀ n : Byte, exec (.columnRead [n]) s = .next
      (s.answered 0xA0
        (if h : n.toNat < 12 then
          let c : Column := ⟨n.toNat, h⟩
          [0x00, byte s.sups[c].condition.code, byte (reasonCode s.sups[c].reason),
            byte s.sups[c].latch.code, flag s.sups[c].hatchOpen, flag (!s.sups[c].lift.level),
            byte s.access[c].state.code, byte (stageCode (s.round.stageOf c)),
            byte s.fills[c].estimate, byte s.fills[c].band.code, byte s.fills[c].since,
            flag s.fills[c].doubtful] ++
            (match s.ranging.heads[c].last with
              | none => ([0, 0, 0, 0, 0, 0, 0, 0] : List Byte)
              | some l => ([1] : List Byte) ++ bytes 2 l.mm ++ bytes 2 l.time.day.toNat ++ bytes 3 l.time.second) ++
            [byte s.ranging.heads[c].failures, byte s.ranging.heads[c].skip] ++
            bytes 2 s.access[c].insertions.toNat ++ bytes 2 s.access[c].denials
         else [0x04]))) ∧
    exec (.roundRead []) s = .next
      (s.answered 0xB5
        ([0x00, byte s.round.state.code] ++ bytes 2 ((s.round.id.map BitVec.toNat).getD 0) ++
          bytes 4 ((s.round.vehicle.map BitVec.toNat).getD 0) ++
          (match s.round.openTime with
            | none => ([0, 0, 0, 0, 0] : List Byte)
            | some t => bytes 2 t.day.toNat ++ bytes 3 t.second) ++
          [byte s.round.manifest.length] ++
          (s.round.manifest.flatMap fun e =>
            [byte e.column.val, byte e.status.code, byte (outcomeCode e.outcome),
              byte (failCode e.failReason),
              byte (bit 0 e.fillBefore.isSome + bit 1 e.fillAfter.isSome + bit 2 e.residue),
              byte (e.fillBefore.getD 0), byte (e.fillAfter.getD 0)]) ++
          [match s.round.manifest.findIdx? (fun e => decide (e.status = .active)) with
            | none => (0xFF : Byte)
            | some i => byte i,
            byte (stageCode (if s.round.active.isSome then s.round.stage else none))] ++
          bytes 2 (s.round.timeLeft s.now / 1000) ++
          [match s.round.supervision with
            | .counting _ => (1 : Byte)
            | .held _ => 0]))

/-- A refused PROFILE WRITE changes nothing; an accepted one puts every setting in force (R170, R171).
One setting judged by range, relation and column state: the near-full threshold N with the bands it
rejudges (R105), and a column's fraction. -/
def Obligations.ProfileWriteJudged : Prop :=
  (∀ (s : State) (body : List Byte), s.chosen → s.host.inHand = none →
    (∃ st fields, st ≠ 0x00 ∧ exec (.profileWrite body) s = .next (s.answered 0x86 (st :: fields))) ∨
    (∃ xs t, parseSettings body.length body = some (xs, false) ∧
      exec (.profileWrite body) s = .next t ∧ t.replies 0x86 [0x00, byte xs.length] ∧
      t.profile = s.profile.putAll xs ∧ t.clock = s.clock ∧ t.period = s.period ∧
      t.table = s.table ∧ t.now = s.now ∧ t.host.transfer = s.host.transfer ∧
      t.host.linkErrors = s.host.linkErrors)) ∧
  (∀ s : State, s.chosen → s.host.inHand = none →
    (∀ v : Byte, v.toNat = 0 ∨ 199 < v.toNat ∨ s.profile.full ≤ v.toNat →
      exec (.profileWrite [0x03, 0xFF, v]) s = .next (s.answered 0x86 [0x04, 0])) ∧
    (∀ v : Byte, 1 ≤ v.toNat → v.toNat ≤ 199 → v.toNat < s.profile.full →
      ∃ t, exec (.profileWrite [0x03, 0xFF, v]) s = .next t ∧ t.replies 0x86 [0x00, 1] ∧
        t.profile = { s.profile with nearFull := v.toNat } ∧
        t.sups = s.sups ∧ t.access = s.access ∧ t.round = s.round ∧ t.journal = s.journal ∧
        ∀ c : Column, t.fills[c] =
          { s.fills[c] with
            band :=
              if v.toNat = s.profile.nearFull then s.fills[c].band
              else nextBand v.toNat s.profile.full s.fills[c].band s.fills[c].estimate }) ∧
    (∀ (c : Column) (v : Byte), 5 < v.toNat →
      exec (.profileWrite [0x21, byte c.val, v]) s = .next (s.answered 0x86 [0x04, 0])) ∧
    (∀ (c : Column) (v : Byte), v.toNat ≤ 5 →
      (s.access[c].state ≠ .locked ∨ s.round.lists c = true) →
      exec (.profileWrite [0x21, byte c.val, v]) s = .next (s.answered 0x86 [0x0B, 0])) ∧
    (∀ (c : Column) (v : Byte), v.toNat ≤ 5 → s.access[c].state = .locked →
      s.round.lists c = false →
      ∃ t, exec (.profileWrite [0x21, byte c.val, v]) s = .next t ∧ t.replies 0x86 [0x00, 1] ∧
        t.profile.columns[c].fraction.val = v.toNat ∧
        (∀ k : Column, k ≠ c → t.profile.columns[k] = s.profile.columns[k]) ∧
        t.sups = s.sups ∧ t.access = s.access ∧ t.fills = s.fills ∧ t.alerts = s.alerts))

/-- Disabling and enabling a column by its enabled item (R16, R106). That the latch shows its
contacts at once on disabling is the model's reading, log 14. -/
def Obligations.EnabledItemSwitchesColumn : Prop :=
  ∀ (s : State) (c : Column), s.chosen → s.host.inHand = none → s.access[c].state = .locked →
    s.round.lists c = false →
    (s.profile.columns[c].enabled = true → s.ranging.queue.Nodup →
      ∃ t, exec (.profileWrite [0x20, byte c.val, 0]) s = .next t ∧ t.replies 0x86 [0x00, 1] ∧
        t.profile.columns[c] = { s.profile.columns[c] with enabled := false } ∧
        t.sups[c] = { s.sups[c] with
          condition := .disabled, reason := none, drive := .off, travel := none, permit := false,
          latch := s.sups[c].latchShown } ∧
        t.access[c] = { s.access[c] with rest := none } ∧ c ∉ t.ranging.queue ∧
        (∀ b, t.ranging.burst = some b → b.column ≠ c) ∧ t.fills[c] = s.fills[c] ∧
        t.ranging.heads[c] = s.ranging.heads[c] ∧ t.alerts = s.alerts) ∧
    (s.profile.columns[c].enabled = false → s.sups[c].condition = .disabled →
      ∃ t, exec (.profileWrite [0x20, byte c.val, 1]) s = .next t ∧ t.replies 0x86 [0x00, 1] ∧
        t.profile.columns[c] = { s.profile.columns[c] with enabled := true } ∧
        (s.sups[c].lift.level = false →
          t.sups[c] = { s.sups[c] with condition := .absent, reason := none } ∧
            t.alerts = s.alerts) ∧
        (s.sups[c].lift.level = true → s.sups[c].hatchOpen = false → s.sups[c].latch = .home →
          t.sups[c] = { s.sups[c] with condition := .inService, reason := none } ∧
            t.alerts = s.alerts) ∧
        (s.sups[c].lift.level = true → s.sups[c].hatchOpen = false → s.sups[c].latch ≠ .home →
          t.sups[c] = { s.sups[c] with condition := .outOfService, reason := some .latchFault } ∧
            t.alerts = s.alerts.raise .latchFault (some c) s.clock.reading) ∧
        (s.sups[c].lift.level = true → s.sups[c].hatchOpen = true →
          t.access[c].state = .open ∧ t.sups[c].condition = .outOfService))

/-! ### Resets -/

/-- RESTART is answered OK at once and stays in hand after its reply's end mark; the soft restart is then
due. Taken whole it ends with the request let go; taken block by block, each block's event is its own,
the RESTART stays in hand until the last, and a PRESENT completed meanwhile is discarded without verdict
(R173). The order of the blocks, beyond R83 and R158, is the model's choice, log 9; that the engine
chooses at the end of a block's event is log 7. -/
def Obligations.RestartAnsweredThenTaken : Prop :=
  (∀ s : State, s.chosen → s.host.inHand = none →
    ∃ t u w, exec (.restart []) s = .next t ∧
      t = { s with
            host := { s.host with
              frame := none,
              inHand := some
                { reply := { kind := 0x83, body := [0x00] }, restart := true, sent := false } } } ∧
      exec .replySent t = .next u ∧
      u = { s with
            host := { s.host with
              frame := none,
              inHand := some
                { reply := { kind := 0x83, body := [0x00] }, restart := true, sent := true } } } ∧
      .softRestart ∈ dueEvents u ∧ exec .softRestart u = .next w ∧ w.host.inHand = none) ∧
  (∀ (u : State) (h : InHand), u.host.inHand = some h → h.restart = true → h.sent = true →
    let t := restartNext u
    (u.chosen → u.reader.sending = none →
      ∀ c card, exec (.present c card) u = .next (readerFrameEnds u)) ∧
    (u.restarted < 6 → t.host.inHand = u.host.inHand ∧ t.restarted = u.restarted + 1) ∧
    (u.restarted = 0 → (∀ c : Column, t.sups[c].permit = false) ∧ t.access = u.access ∧
      t.round = u.round ∧ t.journal = u.journal ∧ t.table = u.table ∧ t.alerts = u.alerts ∧
      t.reader = u.reader) ∧
    (u.restarted = 1 →
      (∀ c : Column, t.access[c].context = none ∧ t.access[c].drainMark = false) ∧
      t.sups = u.sups ∧ t.round = u.round ∧ t.reader = u.reader ∧ t.host = u.host) ∧
    (u.restarted = 2 → t.host = { u.host with transfer := none } ∧
      t.table = { u.table with staged := [] } ∧ t.access = u.access ∧ t.round = u.round ∧
      t.journal = u.journal ∧ t.alerts = u.alerts) ∧
    (u.restarted = 3 → (u.round.state = .open → t.round.state = .aborted) ∧
      (u.round.state ≠ .open → t.round = u.round) ∧ t.access = u.access ∧
      t.reader = u.reader) ∧
    (u.restarted = 4 →
      ∃ r : Ranging, t = chooseNext { u with restarted := 5, ranging := r } ∧ r.burst = none ∧
        r.queue = [] ∧ r.pause = none ∧ r.pointer = 0 ∧ r.rsel = u.ranging.rsel ∧
        ∀ c : Column, r.heads[c] = { u.ranging.heads[c] with skip := 0 }) ∧
    (u.restarted = 5 → t.reader = { u.reader with waiting := [], frame := none } ∧
      t.alerts = u.alerts ∧ t.round = u.round ∧ t.access = u.access) ∧
    (u.restarted = 6 →
      t.alerts = { entries := [], floor := u.alerts.floor, dropped := 0 } ∧
      t.host = { u.host with inHand := none } ∧ t.restarted = 0 ∧ t.reader = u.reader ∧
      t.round = u.round ∧ t.access = u.access))

/-- A soft restart settles the work in flight and keeps the long-lived state, block by block: an OPEN round is
aborted, every entry not DONE with outcome ABORTED and its record, in manifest order, after those of the
settled grants; what a
column holds, what a settled deposit adds to its fill and counters, and what its records make of the
journal. That it is one step in a fixed block order is the model's choice, log 9; that a machine goes on
from HOMING to LOCKED over a latch that is HOME is R77. -/
def Obligations.SoftRestartSettlesAndKeeps : Prop :=
  ∀ s : State, ∃ t, exec .softRestart s = .next t ∧
    t.now = s.now ∧ t.clock = s.clock ∧ t.period = s.period ∧ t.profile = s.profile ∧
    t.table.provisional = s.table.provisional ∧ t.table.staged = [] ∧
    (∀ b : Fin 64, t.table.blocks[b].pinned = s.table.blocks[b].pinned ∧
      t.table.blocks[b].entries.map (·.host) = s.table.blocks[b].entries.map (·.host)) ∧
    t.host.transfer = none ∧ t.host.linkErrors = s.host.linkErrors ∧
    t.host.frame = s.host.frame ∧ t.reader.waiting = [] ∧ t.reader.frame = none ∧
    t.alerts = { entries := [], floor := s.alerts.floor, dropped := 0 } ∧
    t.ranging.burst = none ∧ t.ranging.queue = [] ∧ t.ranging.pointer = 0 ∧
    t.ranging.pause = none ∧ (s.chosen → t.ranging.rsel = s.ranging.rsel) ∧
    t.journal.readMark = s.journal.readMark ∧ s.journal.records <+: t.journal.records ∧
    t.journal.nextSeq = s.journal.nextSeq +
      BitVec.ofNat 32 (t.journal.records.length - s.journal.records.length) ∧
    t.journal.highArmed = (s.journal.highArmed &&
      !decide (s.journal.records.length < 1792 ∧ 1792 ≤ t.journal.records.length)) ∧
    (JournalLaw s → t.journal.reservations = 0) ∧
    (s.round.state = .open → RoundLaw s →
      let unfinished := s.round.manifest.filter fun e => decide (e.status ≠ .done)
      t.round =
        { s.round with
          state := .aborted, supervision := .held 0,
          stage := if s.round.active.isSome then none else s.round.stage,
          settleTimer := if s.round.active.isSome then none else s.round.settleTimer,
          liftStart := if s.round.active.isSome then none else s.round.liftStart,
          manifest := s.round.manifest.map fun e =>
            if e.status = .done then e
            else
              { e with
                status := .done, outcome := some .aborted, failReason := none,
                fillAfter := none, residue := false } } ∧
      ∃ settled : List Record,
        t.journal.records = s.journal.records ++ settled ++ unfinished.mapIdx fun i e =>
          { seq := s.journal.nextSeq + BitVec.ofNat 32 (settled.length + i), column := e.column,
            time := s.clock.reading,
            flags := { timeUnset := !s.clock.timeSet, late := false, interrupted := false,
                       provisional := false, residue := false, fillAfterPresent := false },
            period := s.period,
            body := .emptying (s.round.id.getD 0) (s.round.vehicle.getD 0) .aborted none
              (e.fillBefore.getD t.fills[e.column].estimate) none }) ∧
    (s.round.state ≠ .open → t.round = s.round) ∧
    (∀ c : Column,
      t.ranging.heads[c].failures = s.ranging.heads[c].failures ∧
      t.ranging.heads[c].last = s.ranging.heads[c].last ∧ t.ranging.heads[c].skip = 0 ∧
      t.sups[c].permit = false ∧ t.sups[c].hatchOpen = s.sups[c].hatchOpen ∧
      t.sups[c].condition =
        (if s.sups[c].permit = true ∧ s.sups[c].lift.level = false then .absent
         else s.sups[c].condition) ∧
      t.sups[c].reason = s.sups[c].reason ∧ t.access[c].context = none ∧
      t.access[c].cancelMark = false ∧ t.access[c].drainMark = false ∧ t.access[c].rest = none ∧
      t.access[c].grantTimer = none ∧ t.access[c].denials = s.access[c].denials) ∧
    (∀ c : Column, s.sups[c].condition ≠ .disabled →
      t.access[c].state =
        (if s.sups[c].hatchOpen then .open
         else if t.sups[c].latch = .home then .locked else .homing) ∧
      t.access[c].openTimer =
        (if s.sups[c].hatchOpen then some (s.now + s.profile.hatchOpenLimit * 1000) else none)) ∧
    (∀ (c : Column) (g : GrantContext), s.access[c].state = .open →
      s.access[c].context = some g → g.service = false →
      let est := min 200 (s.fills[c].estimate + s.profile.columns[c].increment)
      t.access[c].insertions = s.access[c].insertions + 1 ∧
      t.fills[c] =
        { s.fills[c] with
          estimate := est, since := min 255 (s.fills[c].since + 1),
          band := nextBand s.profile.nearFull s.profile.full s.fills[c].band est }) ∧
    (∀ c : Column,
      (s.access[c].state = .open → ∀ g, s.access[c].context = some g → g.service = true) →
      t.access[c].insertions = s.access[c].insertions ∧ t.fills[c] = s.fills[c]) ∧
    (∀ c : Column, s.sups[c].condition ≠ .disabled → s.sups[c].homeAlone = true →
      t.sups[c].latch = .home ∧ t.sups[c].drive = .off) ∧
    (∀ c : Column, s.sups[c].condition ≠ .disabled → s.sups[c].homeAlone = false →
      t.sups[c].latch = .homing ∧ t.sups[c].drive = .towardHome ∧
        t.sups[c].travel = some (s.now + s.profile.travelLimit))

/-- What the settling of one grant in flight does, by how far its cycle has come (R83). That the use count
looks the card's number up afresh, for a provisional grant as for any other, is the model's choice, log 30. -/
def Obligations.RestartSettlesGrant : Prop :=
  ∀ (s : State) (c : Column) (g : GrantContext), s.access[c].context = some g →
    (s.access[c].state = .releasing ∨ s.access[c].state = .awaitOpen →
      settleGrant s c =
        { s with
          table := if g.service then s.table else s.table.refund g.card g.period s.period,
          journal := { s.journal with reservations := s.journal.reservations - 1 } }) ∧
    (s.access[c].state = .open → g.service = false →
      let est := min 200 (s.fills[c].estimate + s.profile.columns[c].increment)
      (settleGrant s c).journal.records = s.journal.records ++
        [{ seq := s.journal.nextSeq, column := c, time := s.clock.reading,
           flags := { timeUnset := !s.clock.timeSet, late := g.late, interrupted := true,
                      provisional := false, residue := false, fillAfterPresent := false },
           period := g.period, body := .insertion g.card g.cls g.tariff g.fraction est }] ∧
      (settleGrant s c).journal.reservations = s.journal.reservations - 1 ∧
      (settleGrant s c).fills[c].estimate = est ∧
      (settleGrant s c).table = s.table.useCount g.card ∧
      (settleGrant s c).access[c].insertions = s.access[c].insertions + 1) ∧
    (s.access[c].state = .open → g.service = true →
      (settleGrant s c).journal.records = s.journal.records ++
        [{ seq := s.journal.nextSeq, column := c, time := s.clock.reading,
           flags := { timeUnset := !s.clock.timeSet, late := g.late, interrupted := true,
                      provisional := g.provisional, residue := false, fillAfterPresent := false },
           period := g.period,
           body := .serviceOpen g.card (min 65535 ((s.now - g.openStart.getD s.now) / 1000)) }] ∧
      (settleGrant s c).fills = s.fills ∧ (settleGrant s c).access = s.access ∧
      (settleGrant s c).table = s.table.useCount g.card) ∧
    (s.access[c].state = .homing → settleGrant s c = s)

/-- A full reset returns every block to its starting values, the columns as their pins have them. A
machine starts in HOMING and goes on to LOCKED in the same event where its latch is HOME (R77, R85). That
the time base stands at 0 afterwards is the model's choice, log 26. -/
def Obligations.FullResetRestoresStart : Prop :=
  ∀ s : State, ∃ t, exec .fullReset s = .next t ∧
    t.now = 0 ∧ t.clock = { day := 0, second := 0, timeSet := false, lastAdvance := 0 } ∧
    t.period = 0 ∧ t.profile = Profile.default ∧
    t.fills = Vector.replicate 12 { estimate := 0, band := .normal, since := 0, doubtful := false } ∧
    t.table = { blocks := Vector.replicate 64 { entries := [], pinned := false },
                provisional := true, staged := [] } ∧
    t.round = { state := .noRound, id := none, vehicle := none, openTime := none, manifest := [],
                stage := none, supervision := .held 0, settleTimer := none, liftStart := none } ∧
    t.journal = { records := [], reservations := 0, readMark := 0, nextSeq := 0,
                  highArmed := true } ∧
    t.alerts = { entries := [], floor := 4, dropped := 0 } ∧
    t.host = { frame := none, inHand := none, transfer := none, linkErrors := 0 } ∧
    t.reader = { frame := none, waiting := [], sending := none } ∧ t.arriving = [] ∧
    t.ranging.burst = none ∧ t.ranging.queue = [] ∧ t.ranging.pointer = 0 ∧
    t.ranging.pause = none ∧ t.ranging.rsel = 0 ∧
    ∀ c : Column,
      let pin := s.sups[c]
      let p := t.sups[c]
      let a := t.access[c]
      let home := pin.homeContact.pin && !pin.releasedContact.pin
      t.ranging.heads[c].failures = 0 ∧ t.ranging.heads[c].last = none ∧
      t.ranging.heads[c].skip = 0 ∧
      p.condition = (if pin.lift.pin then .inService else .absent) ∧ p.reason = none ∧
      p.permit = false ∧ p.hatchOpen = (pin.lift.pin && !pin.hatch.pin) ∧
      p.hatch = Filter.steady pin.hatch.pin ∧ p.lift = Filter.steady pin.lift.pin ∧
      p.homeContact = Filter.steady pin.homeContact.pin ∧
      p.releasedContact = Filter.steady pin.releasedContact.pin ∧
      p.latch = (if home then .home else .homing) ∧
      p.drive = (if home then .off else .towardHome) ∧
      p.travel = (if home then none else some 800) ∧
      a.state = (if p.hatchOpen then .open else if home then .locked else .homing) ∧
      a.openTimer = (if p.hatchOpen then some 90000 else none) ∧
      a.context = none ∧ a.grantTimer = none ∧ a.cancelMark = false ∧ a.drainMark = false ∧
      a.rest = none ∧ a.insertions = 0 ∧ a.denials = 0

/-! ### Clock and period (03) -/

/-- TIME SET sets the clock and answers with the reading before it; a second beyond 86,399 is
refused (R46); each advance adds one second with its two wraps (R45). PERIOD SET changes the period
and nothing else, and a card whose stamp differs from the new period has its allowance as its
effective remaining (R49). The moment to which an advance carries the time base, and that the next
count runs from the moment it was due, are the model's choice, log 2 and 22. -/
def Obligations.ClockAndPeriodSet : Prop :=
  ((∀ (s : State) (d1 d0 s2 s1 s0 : Byte), s.chosen → s.host.inHand = none →
    let second := s2.toNat * 65536 + s1.toNat * 256 + s0.toNat
    exec (.timeSet [d1, d0, s2, s1, s0]) s = .next
      (if 86399 < second then s.answered 0x84 [0x04]
       else
        { s.answered 0x84 ([0x00] ++ bytes 2 s.clock.day.toNat ++ bytes 3 s.clock.second ++
            [if s.clock.timeSet then 1 else 0]) with
          clock := { day := d1 ++ d0, second := second, timeSet := true, lastAdvance := s.now } })) ∧
  (∀ s : State, s.chosen →
    exec .clockAdvance s = .next
      { s with
        now := max s.now (s.clock.lastAdvance + 1000),
        clock := { s.clock with
          day := if 86399 ≤ s.clock.second then s.clock.day + 1 else s.clock.day,
          second := if 86399 ≤ s.clock.second then 0 else s.clock.second + 1,
          lastAdvance := s.clock.lastAdvance + 1000 } })) ∧
  (∀ (s : State) (p1 p0 : Byte), s.chosen → s.host.inHand = none →
    exec (.periodSet [p1, p0]) s = .next
      { s.answered 0x85 [0x00, p1, p0] with period := p1 ++ p0 } ∧
    ∀ e : Entry, e.stamp ≠ some (p1 ++ p0) → e.effective (p1 ++ p0) = e.host.allowance)

/-! ### Alerts (08) -/

/-- ALERT FLOOR sets the floor and nothing else, and ATTN is asserted exactly while an entry stands at
or above it (R154, R155); ALERT FETCH takes the oldest entries up to the count, and reports and clears
the dropped count (R156). The twelve kinds have the codes and levels of 08 8.1. -/
def Obligations.AlertRequestsServed : Prop :=
  (∀ (s : State) (n : Byte), s.chosen → s.host.inHand = none →
    exec (.alertFloor [n]) s = .next
      (if n.toNat = 0 ∨ 8 < n.toNat then s.answered 0x89 [0x04]
       else { s.answered 0x89 [0x00, n] with alerts := { s.alerts with floor := n.toNat } }) ∧
    ∀ a : AlertList, a.attn = true ↔ ∃ e ∈ a.entries, a.floor ≤ e.kind.level) ∧
  (∀ (s : State) (n : Byte), s.chosen → s.host.inHand = none →
    exec (.alertFetch [n]) s = .next
      (if n.toNat = 0 ∨ 6 < n.toNat then s.answered 0x88 [0x04]
       else
        { s.answered 0x88
            ([0x00, byte (s.alerts.entries.take n.toNat).length,
              byte (s.alerts.entries.drop n.toNat).length, byte s.alerts.dropped] ++
              (s.alerts.entries.take n.toNat).flatMap fun e =>
                [byte e.kind.code, (e.column.map fun c => byte c.val).getD 0xFF, byte e.kind.level,
                  byte e.count] ++ bytes 2 e.first.day.toNat ++ bytes 3 e.first.second ++
                  bytes 2 e.last.day.toNat ++ bytes 3 e.last.second) with
          alerts := { s.alerts with entries := s.alerts.entries.drop n.toNat, dropped := 0 } })) ∧
  ((AlertKind.unauthorisedLift.code, AlertKind.unauthorisedLift.level) = (0x01, 7) ∧
    (AlertKind.forcedHatch.code, AlertKind.forcedHatch.level) = (0x02, 7) ∧
    (AlertKind.latchFault.code, AlertKind.latchFault.level) = (0x03, 6) ∧
    (AlertKind.hatchFault.code, AlertKind.hatchFault.level) = (0x04, 6) ∧
    (AlertKind.overfill.code, AlertKind.overfill.level) = (0x05, 5) ∧
    (AlertKind.columnFull.code, AlertKind.columnFull.level) = (0x06, 4) ∧
    (AlertKind.rangingFault.code, AlertKind.rangingFault.level) = (0x07, 4) ∧
    (AlertKind.journalHigh.code, AlertKind.journalHigh.level) = (0x08, 3) ∧
    (AlertKind.roundAborted.code, AlertKind.roundAborted.level) = (0x09, 3) ∧
    (AlertKind.transferAbandoned.code, AlertKind.transferAbandoned.level) = (0x0A, 2) ∧
    (AlertKind.nearFull.code, AlertKind.nearFull.level) = (0x0B, 2) ∧
    (AlertKind.roundEnded.code, AlertKind.roundEnded.level) = (0x0C, 1))

/-- A raising that finds an entry of its kind and column is coalesced into it, the count rising by one up
to 255 and the last time being the raising's (R151); one that finds none is appended, displaces the
oldest entry of the lowest level present, or is dropped (R152). -/
def Obligations.RaisingJoinsList : Prop :=
  (∀ (a : AlertList) (kind : AlertKind) (column : Option Column) (t : Reading),
    (∃ e ∈ a.entries, e.kind = kind ∧ e.column = column) →
    a.raise kind column t =
      { a with entries := a.entries.map fun e =>
          if e.kind = kind ∧ e.column = column then
            { e with count := min 255 (e.count + 1), last := t }
          else e }) ∧
  (∀ (a : AlertList) (kind : AlertKind) (column : Option Column) (t : Reading),
    (∀ e ∈ a.entries, ¬(e.kind = kind ∧ e.column = column)) →
    let new : AlertEntry := { kind := kind, column := column, count := 1, first := t, last := t }
    (a.entries.length < 32 →
      a.raise kind column t = { a with entries := a.entries ++ [new] }) ∧
    (32 ≤ a.entries.length → (∀ e ∈ a.entries, kind.level ≤ e.kind.level) →
      a.raise kind column t = { a with dropped := min 255 (a.dropped + 1) }) ∧
    (∀ before e after, 32 ≤ a.entries.length → a.entries = before ++ e :: after →
      e.kind.level < kind.level → (∀ x ∈ a.entries, e.kind.level ≤ x.kind.level) →
      (∀ x ∈ before, e.kind.level < x.kind.level) →
      a.raise kind column t = { a with entries := before ++ after ++ [new] }))

/-! ### Card table (02) -/

/-- TABLE WRITE and TABLE VERIFY open a transfer context and empty the staging block; while a
context is open five requests are refused with TRANSFER OPEN; the watch's expiry abandons the
transfer. A continuing TABLE DATA frame stages its entries, counts them and restarts the watch;
without a context every frame of good length is answered NO TRANSFER (R25, R26, R34, R164, R165).
The moment of the expiry is the model's choice, log 2. -/
def Obligations.TransferOpenedFilledAbandoned : Prop :=
  (∀ s : State, s.chosen →
    (∀ (b n : Byte) (verify : Bool), s.host.inHand = none →
      let kind : Byte := if verify then 0x92 else 0x90
      exec (if verify then .tableVerify [b, n] else .tableWrite [b, n]) s = .next
        (if s.host.transfer.isSome then s.answered kind [0x05]
         else if 63 < b.toNat ∨ 64 < n.toNat then s.answered kind [0x04]
         else
          { s.answered kind [0x00] with
            host := { (s.answered kind [0x00]).host with
              transfer := some
                { kind := if verify then .verify else .write, block := Fin.ofNat 64 b.toNat,
                  declared := n.toNat, delivered := 0, watch := s.now + 2000 } },
            table := { s.table with staged := [] } })) ∧
    (∀ a b : Byte, s.host.inHand = none → s.host.transfer.isSome = true →
      exec (.tableErase [a, b]) s = .next (s.answered 0x93 [0x05]) ∧
      exec (.tablePin [a, b]) s = .next (s.answered 0x95 [0x05]) ∧
      exec (.tableRelease []) s = .next (s.answered 0x96 [0x05])) ∧
    (∀ x : Transfer, s.host.transfer = some x →
      exec .transferWatchExpiry s = .next
        { s with
          now := max s.now x.watch,
          host := { s.host with transfer := none },
          table := { s.table with staged := [] },
          alerts := s.alerts.raise .transferAbandoned none s.clock.reading })) ∧
  (∀ (s : State) (body : List Byte), s.chosen → s.host.inHand = none → body.length % 12 = 0 →
    body.length ≤ 96 →
    (∀ x, s.host.transfer = some x → body ≠ [] →
      let n := min 255 (x.delivered + (parseEntries body).length)
      exec (.tableData true body) s = .next
        { s.answered 0x91 [0x00, byte n] with
          host := { (s.answered 0x91 [0x00, byte n]).host with
            transfer := some { x with delivered := n, watch := s.now + 2000 } },
          table := { s.table with
            staged := (s.table.staged ++ parseEntries body).take 64 } }) ∧
    (s.host.transfer = none → ∀ more, (more = true → body ≠ []) →
      exec (.tableData more body) s = .next (s.answered 0x91 [0x06])))

/-- The final frame of a write transfer closes the context, empties the staging block, and is refused
by the first check of R27 that applies or replaces the block whole and ends provisional access. An entry is
valid when none of R27's eight conditions holds. -/
def Obligations.FinalFrameCommits : Prop :=
  (∀ (s : State) (body : List Byte) (x : Transfer), s.chosen → s.host.inHand = none →
     body.length % 12 = 0 → body.length ≤ 96 → s.host.transfer = some x → x.kind = .write →
     let staged := (s.table.staged ++ parseEntries body).take 64
     let n := min 255 (x.delivered + (parseEntries body).length)
     let old := s.table.blocks[x.block]
     let closed (reply : List Byte) (t : CardTable) : State :=
       { s.answered 0x91 reply with
         host := { (s.answered 0x91 reply).host with transfer := none },
         table := { t with staged := [] } }
     (old.pinned = true → exec (.tableData false body) s = .next (closed [0x08] s.table)) ∧
     (old.pinned = false → n ≠ x.declared →
       exec (.tableData false body) s = .next (closed [0x07, byte n] s.table)) ∧
     (old.pinned = false → n = x.declared → ∀ i r, staged[i]? = some r → r.valid = false →
       (∀ j q, j < i → staged[j]? = some q → q.valid = true) →
       exec (.tableData false body) s = .next (closed [0x04, byte i] s.table)) ∧
     (old.pinned = false → n = x.declared → (∀ r ∈ staged, r.valid = true) →
       ∀ i, offends s.table x.block staged i → (∀ j, j < i → ¬offends s.table x.block staged j) →
       exec (.tableData false body) s = .next (closed [0x09, byte i] s.table)) ∧
     (old.pinned = false → n = x.declared → (∀ r ∈ staged, r.valid = true) →
       (∀ i, ¬offends s.table x.block staged i) →
       exec (.tableData false body) s = .next
         (closed [0x00]
           { s.table with
             blocks := s.table.blocks.set x.block
               { old with entries := staged.map (carryOver old.entries) },
             provisional := false }))) ∧
  (∀ r : RawEntry, r.valid = true ↔
    r.card ≠ 0 ∧ r.cls.toNat ≤ 2 ∧ (r.fractions.getLsbD 6 = false ∧ r.fractions.getLsbD 7 = false) ∧
      r.tariff.toNat ≤ 15 ∧ (∀ k, 2 ≤ k → r.flags.getLsbD k = false) ∧
      (∀ k, 12 ≤ k → r.restriction.getLsbD k = false) ∧
      (r.flags.getLsbD 1 = false → r.restriction = 0) ∧ r.spare = 0)

/-- Carry-over: a card that stood in the same block keeps remaining, saturated to the new allowance,
stamp and uses; any other is a new card (R29). -/
def Obligations.CommitCarriesOver : Prop :=
  ∀ (old : List Entry) (r : RawEntry),
    (∀ e ∈ old, e.host.card = r.card → (∀ k ∈ old, k.host.card = r.card → k = e) →
      carryOver old r =
        { host := r.fields, remaining := min e.remaining r.allowance.toNat, stamp := e.stamp,
          uses := e.uses }) ∧
    ((∀ e ∈ old, e.host.card ≠ r.card) →
      carryOver old r =
        { host := r.fields, remaining := r.allowance.toNat, stamp := none, uses := 0 }) ∧
    (r.valid = true → r.fields.canonical = r)

/-- The final frame of a verify transfer counts the positions of the block that differ and changes no
slot, pin or mode (R35). -/
def Obligations.FinalFrameVerifies : Prop :=
  (∀ (s : State) (body : List Byte) (x : Transfer), s.chosen → s.host.inHand = none →
    body.length % 12 = 0 → body.length ≤ 96 → s.host.transfer = some x → x.kind = .verify →
    let staged := (s.table.staged ++ parseEntries body).take 64
    let n := min 255 (x.delivered + (parseEntries body).length)
    let reply : List Byte :=
      if n = x.declared then [0x00, byte (mismatches staged s.table.blocks[x.block].entries)]
      else [0x07, byte n]
    exec (.tableData false body) s = .next
      { s.answered 0x91 reply with
        host := { (s.answered 0x91 reply).host with transfer := none },
        table := { s.table with staged := [] } }) ∧
  (∀ (staged : List RawEntry) (b : Block), staged.length ≤ 64 → b.entries.length ≤ 64 →
    mismatches staged b.entries =
      ((List.range 64).filter fun i =>
        match staged[i]? with
        | some r => decide (r ≠ b.slot i)
        | none => decide (i < b.entries.length)).length)

/-- TABLE ERASE empties every block of an unpinned range and TABLE PIN pins a range; no other block
changes (R31, R36). TABLE RELEASE removes every pin, but only with no transfer, an empty journal and
no OPEN round (R38). -/
def Obligations.BlocksErasedPinnedReleased : Prop :=
  (∀ (s : State) (first last : Byte), s.chosen → s.host.inHand = none → s.host.transfer = none →
    let bad := 63 < last.toNat ∨ last.toNat < first.toNat
    let within (b : Fin 64) := first.toNat ≤ b.val ∧ b.val ≤ last.toNat
    (bad → exec (.tableErase [first, last]) s = .next (s.answered 0x93 [0x04]) ∧
      exec (.tablePin [first, last]) s = .next (s.answered 0x95 [0x04])) ∧
    (¬bad → (∃ b, within b ∧ s.table.blocks[b].pinned = true) →
      exec (.tableErase [first, last]) s = .next (s.answered 0x93 [0x08])) ∧
    (¬bad → (∀ b, within b → s.table.blocks[b].pinned = false) →
      ∃ t, exec (.tableErase [first, last]) s = .next { s.answered 0x93 [0x00] with table := t } ∧
        t.provisional = s.table.provisional ∧ t.staged = s.table.staged ∧
        (∀ b, within b → t.blocks[b] = { entries := [], pinned := false }) ∧
        ∀ b, ¬within b → t.blocks[b] = s.table.blocks[b]) ∧
    (¬bad →
      ∃ t, exec (.tablePin [first, last]) s = .next { s.answered 0x95 [0x00] with table := t } ∧
        t.provisional = s.table.provisional ∧ t.staged = s.table.staged ∧
        (∀ b, within b → t.blocks[b] = { s.table.blocks[b] with pinned := true }) ∧
        ∀ b, ¬within b → t.blocks[b] = s.table.blocks[b])) ∧
  (∀ s : State, s.chosen → s.host.inHand = none →
    (s.host.transfer = none → s.journal.records ≠ [] →
      exec (.tableRelease []) s = .next (s.answered 0x96 [0x12])) ∧
    (s.host.transfer = none → s.journal.records = [] → s.round.state = .open →
      exec (.tableRelease []) s = .next (s.answered 0x96 [0x0F])) ∧
    (s.host.transfer = none → s.journal.records = [] → s.round.state ≠ .open →
      ∃ t, exec (.tableRelease []) s = .next { s.answered 0x96 [0x00] with table := t } ∧
        t.provisional = s.table.provisional ∧ t.staged = s.table.staged ∧
        ∀ b : Fin 64, t.blocks[b] = { s.table.blocks[b] with pinned := false }))

/-- TABLE SUM answers 0 minus the bytes of every canonical form of the range, modulo 65,536, with the
count of used slots, also while a transfer is open, and changes nothing (R33). -/
def Obligations.TableSumSubtracts : Prop :=
  ∀ (s : State) (first last : Byte), s.chosen → s.host.inHand = none →
    let blocks := ((List.finRange 64).filter fun b =>
      decide (first.toNat ≤ b.val) && decide (b.val ≤ last.toNat)).map fun b => s.table.blocks[b]
    let total := (blocks.map fun b =>
      (b.entries.map fun e => (e.host.canonical.bytes.map BitVec.toNat).sum).sum).sum
    let used := (blocks.map fun b => b.entries.length).sum
    exec (.tableSum [first, last]) s = .next
      (s.answered 0x94
        (if 63 < last.toNat ∨ last.toNat < first.toNat then [0x04]
         else [0x00] ++ bytes 2 ((65536 - total % 65536) % 65536) ++ bytes 2 used))

/-- CARD QUERY returns the entry a lookup finds, with block and slot, and changes nothing; while
provisional access is in force no card has a slot (R22, R39). -/
def Obligations.CardQueried : Prop :=
  ∀ (s : State) (c3 c2 c1 c0 : Byte), s.chosen → s.host.inHand = none →
    let card : CardNumber := c3 ++ c2 ++ c1 ++ c0
    (card = 0 → exec (.cardQuery [c3, c2, c1, c0]) s = .next (s.answered 0x97 [0x04])) ∧
    (card ≠ 0 → (s.table.provisional = true ∨
        ∀ b : Fin 64, ∀ e ∈ s.table.blocks[b].entries, e.host.card ≠ card) →
      exec (.cardQuery [c3, c2, c1, c0]) s = .next (s.answered 0x97 [0x0A])) ∧
    (card ≠ 0 → s.table.provisional = false → s.table.cards.Nodup →
      ∀ (b : Fin 64) (i : Nat) (e : Entry), s.table.blocks[b].entries[i]? = some e →
        e.host.card = card →
        exec (.cardQuery [c3, c2, c1, c0]) s = .next
          (s.answered 0x97
            ([0x00] ++ e.host.canonical.bytes ++ [byte e.remaining, flag e.stamp.isSome] ++
              bytes 2 ((e.stamp.map BitVec.toNat).getD 0) ++ bytes 2 e.uses.toNat ++
              [byte (e.effective s.period), byte b.val, byte i])))

/-- CARD MODIFY replaces a card's permission set by the kept and added members, on a pinned block only
to leave it or to add blocked, and touches nothing else (R40). -/
def Obligations.CardModified : Prop :=
  ∀ (s : State) (c3 c2 c1 c0 keep add : Byte), s.chosen → s.host.inHand = none →
    let card : CardNumber := c3 ++ c2 ++ c1 ++ c0
    let run := exec (.cardModify [c3, c2, c1, c0, keep, add]) s
    (card = 0 ∨ keep.getLsbD 7 = true ∨ add.getLsbD 7 = true →
      run = .next (s.answered 0x98 [0x04])) ∧
    (card ≠ 0 → keep.getLsbD 7 = false → add.getLsbD 7 = false →
      (s.table.provisional = true ∨
        ∀ b : Fin 64, ∀ e ∈ s.table.blocks[b].entries, e.host.card ≠ card) →
      run = .next (s.answered 0x98 [0x0A])) ∧
    (card ≠ 0 → keep.getLsbD 7 = false → add.getLsbD 7 = false → s.table.provisional = false →
      s.table.cards.Nodup →
      ∀ (b : Fin 64) (i : Nat) (e : Entry), s.table.blocks[b].entries[i]? = some e →
        e.host.card = card →
        let old : BitVec 7 := BitVec.ofBool e.host.blocked ++ e.host.fractions
        let new : BitVec 7 := (old &&& keep.setWidth 7) ||| add.setWidth 7
        let held := s.table.blocks[b].pinned = true ∧ new ≠ old ∧ new ≠ (old ||| 64#7)
        (held → run = .next (s.answered 0x98 [0x08])) ∧
        (¬held → run = .next
          { s.answered 0x98 [0x00, new.setWidth 8] with
            table := { s.table with
              blocks := s.table.blocks.set b
                { s.table.blocks[b] with
                  entries := s.table.blocks[b].entries.set i
                    { e with
                      host := { e.host with
                        fractions := new.setWidth 6, blocked := new.getLsbD 6 } } } } }))

/-- Effective remaining and the charge, case by case (R51, R52). -/
def Obligations.ChargeSpendsOneUse : Prop :=
  ∀ (e : Entry) (period : BitVec 16),
    (e.host.allowance = 255 →
      e.effective period = 255 ∧ e.charge period = { e with stamp := some period } ∧
        e.chargeAnswer period = 255) ∧
    (e.host.allowance ≠ 255 → e.stamp = some period →
      e.effective period = e.remaining ∧
        e.charge period = { e with remaining := e.remaining - 1, stamp := some period } ∧
        e.chargeAnswer period = e.remaining - 1) ∧
    (e.host.allowance ≠ 255 → e.stamp ≠ some period →
      e.effective period = e.host.allowance ∧
        e.charge period = { e with remaining := e.host.allowance - 1, stamp := some period } ∧
        e.chargeAnswer period = e.host.allowance - 1)

/-- A refund restores one use up to the allowance only if the card is found, its stamp is the period
at grant, and that period is current; otherwise the table is unchanged (R53). A use count raises the uses of
a card that is found by one, wrapping after 65,535, and changes nothing else; a card not found leaves the
table as it was (R21, R23). -/
def Obligations.RefundReturnsOneUse : Prop :=
  ∀ (t : CardTable) (card : CardNumber) (granted current : BitVec 16),
    (t.provisional = true ∨ (∀ b : Fin 64, ∀ e ∈ t.blocks[b].entries, e.host.card ≠ card) →
      t.refund card granted current = t) ∧
    (card ≠ 0 → t.provisional = false → t.cards.Nodup →
      ∀ (b : Fin 64) (i : Nat) (e : Entry), t.blocks[b].entries[i]? = some e →
        e.host.card = card →
        (e.stamp ≠ some granted ∨ granted ≠ current → t.refund card granted current = t) ∧
        (e.stamp = some granted → granted = current →
          t.refund card granted current =
            { t with
              blocks := t.blocks.set b
                { t.blocks[b] with
                  entries := t.blocks[b].entries.set i
                    { e with
                      remaining :=
                        if e.host.allowance = 255 then e.remaining
                        else min (e.remaining + 1) e.host.allowance } } })) ∧
    (card = 0 ∨ t.provisional = true ∨
        (∀ b : Fin 64, ∀ e ∈ t.blocks[b].entries, e.host.card ≠ card) →
      t.useCount card = t) ∧
    (card ≠ 0 → t.provisional = false → t.cards.Nodup →
      ∀ (b : Fin 64) (i : Nat) (e : Entry), t.blocks[b].entries[i]? = some e →
        e.host.card = card →
        t.useCount card =
          { t with
            blocks := t.blocks.set b
              { t.blocks[b] with
                entries := t.blocks[b].entries.set i
                  { e with uses := BitVec.ofNat 16 ((e.uses.toNat + 1) % 65536) } } })

/-! ### Columns (01 1.6, 05 R96) -/

/-- COLUMN SERVICE, its checks in order, returns a column to service and queues its measurement
(R14); COLUMN WITHDRAW changes the condition and the reason by rank and nothing else (R15); COLUMN
MEASURE puts a column into the forced queue, where it keeps the place it has (R92, R96), and a free
engine may measure it at once (R91). That the engine chooses at the end of the event is the model's
choice, log 7. -/
def Obligations.ColumnsServicedWithdrawnMeasured : Prop :=
  (∀ (s : State) (n : Byte), s.chosen → s.host.inHand = none →
    (12 ≤ n.toNat → exec (.columnService [n]) s = .next (s.answered 0xA1 [0x04])) ∧
    ∀ c : Column, n.toNat = c.val →
      let p := s.sups[c]
      let persists := p.condition = .absent ∨ p.hatchOpen = true ∨ p.latch ≠ .home ∨
        s.round.claims c = true
      (p.condition = .disabled ∨ p.condition = .inService →
        exec (.columnService [n]) s = .next (s.answered 0xA1 [0x0B])) ∧
      (p.condition = .outOfService ∨ p.condition = .absent → persists →
        exec (.columnService [n]) s = .next (s.answered 0xA1 [0x11])) ∧
      (p.condition = .outOfService → ¬persists →
        ∃ t, exec (.columnService [n]) s = .next t ∧ t.replies 0xA1 [0x00] ∧
          t.sups[c] = { p with condition := .inService, reason := none } ∧
          (∀ k : Column, k ≠ c → t.sups[k] = s.sups[k]) ∧
          (c ∈ t.ranging.queue ∨ ∃ b, t.ranging.burst = some b ∧ b.column = c) ∧
          t.access = s.access ∧ t.round = s.round ∧ t.alerts = s.alerts ∧ t.fills = s.fills)) ∧
  (∀ (s : State) (n : Byte), s.chosen → s.host.inHand = none →
    (12 ≤ n.toNat → exec (.columnWithdraw [n]) s = .next (s.answered 0xA2 [0x04]) ∧
      exec (.columnMeasure [n]) s = .next (s.answered 0xA3 [0x04])) ∧
    ∀ c : Column, n.toNat = c.val →
      let p := s.sups[c]
      (p.condition = .disabled ∨ p.condition = .absent →
        exec (.columnWithdraw [n]) s = .next (s.answered 0xA2 [0x0B])) ∧
      (p.condition = .inService →
        exec (.columnWithdraw [n]) s = .next
          { s.answered 0xA2 [0x00] with
            sups := s.sups.set c { p with condition := .outOfService, reason := some .withdrawn } }) ∧
      (p.condition = .outOfService → p.reason.isSome = true →
        exec (.columnWithdraw [n]) s = .next (s.answered 0xA2 [0x00])) ∧
      (p.condition = .disabled →
        exec (.columnMeasure [n]) s = .next (s.answered 0xA3 [0x0B])) ∧
      (p.condition ≠ .disabled → s.ranging.burst.isSome = true →
        exec (.columnMeasure [n]) s = .next
          { s.answered 0xA3 [0x00] with
            ranging := { s.ranging with
              queue := if c ∈ s.ranging.queue then s.ranging.queue else s.ranging.queue ++ [c] } }) ∧
      (p.condition ≠ .disabled → s.ranging.burst = none →
        ∃ t, exec (.columnMeasure [n]) s = .next t ∧ t.replies 0xA3 [0x00] ∧
          (c ∈ t.ranging.queue ∨ ∃ b, t.ranging.burst = some b ∧ b.column = c) ∧
          (s.ranging.queue = [] → eligible s c = true → ∃ b, t.ranging.burst = some b ∧
            b.column = c ∧
            b.purpose = if s.round.stageOf c = some .measuring then .emptying else .forced) ∧
          t.sups = s.sups ∧ t.access = s.access ∧ t.fills = s.fills ∧ t.round = s.round ∧
          t.journal = s.journal ∧ t.alerts = s.alerts ∧ t.table = s.table ∧ t.reader = s.reader))

/-! ### Emptying rounds (06) -/

/-- ROUND OPEN, its checks in order, replaces the round record whole and reserves one record for each
entry, all or none (R112, R140). -/
def Obligations.RoundOpened : Prop :=
  ∀ (s : State) (i1 i0 v3 v2 v1 v0 n : Byte) (cs : List Byte), s.chosen → s.host.inHand = none →
    cs.length = n.toNat →
    let run := exec (.roundOpen ([i1, i0, v3, v2, v1, v0, n] ++ cs)) s
    let bad := (i1 ++ i0 : BitVec 16) = 0 ∨ n.toNat = 0 ∨ 12 < n.toNat ∨
      (∃ b ∈ cs, 12 ≤ b.toNat) ∨ ¬cs.Nodup ∨
      ∃ b ∈ cs, ∃ c : Column, c.val = b.toNat ∧ s.sups[c].condition = .disabled
    (s.round.state = .open → run = .next (s.answered 0xB0 [0x0F])) ∧
    (s.round.state ≠ .open → bad → run = .next (s.answered 0xB0 [0x04])) ∧
    (s.round.state ≠ .open → ¬bad →
      2048 < s.journal.records.length + s.journal.reservations + n.toNat →
      run = .next (s.answered 0xB0 [0x0C])) ∧
    (s.round.state ≠ .open → ¬bad →
      s.journal.records.length + s.journal.reservations + n.toNat ≤ 2048 →
      run = .next
        { s.answered 0xB0 [0x00, i1, i0, n] with
          journal := { s.journal with reservations := s.journal.reservations + n.toNat },
          round :=
            { state := .open, id := some (i1 ++ i0), vehicle := some (v3 ++ v2 ++ v1 ++ v0),
              openTime := some { day := s.clock.day, second := s.clock.second },
              manifest := cs.map fun b =>
                { column := Fin.ofNat 12 b.toNat, status := .pending, outcome := none,
                  failReason := none, fillBefore := none, fillAfter := none, residue := false },
              stage := none, supervision := .counting (s.now + s.profile.keepTime * 1000),
              settleTimer := none, liftStart := none } })

/-- ROUND CLAIM, its checks in order (R117). An accepted claim takes the fill before and reloads the
supervision timer. At rest over a latch that holds it asserts the permit, over any other latch it fails
the entry and writes its record; in AWAIT OPEN it cuts the grant with CANCELLED; in RELEASING it sets
the cancel mark; an open hatch is let finish; a burst on the column is abandoned (R12, R80, R89, R118,
R120). That the engine chooses last is log 7. -/
def Obligations.RoundClaimed : Prop :=
  (∀ (s : State) (n : Byte), s.chosen → s.host.inHand = none →
    (12 ≤ n.toNat → exec (.roundClaim [n]) s = .next (s.answered 0xB1 [0x04])) ∧
    ∀ c : Column, n.toNat = c.val →
      (s.round.state ≠ .open → exec (.roundClaim [n]) s = .next (s.answered 0xB1 [0x0D])) ∧
      (s.round.state = .open → s.round.entryOf c = none →
        exec (.roundClaim [n]) s = .next (s.answered 0xB1 [0x0E])) ∧
      ∀ e, s.round.state = .open → s.round.entryOf c = some e →
        (e.status ≠ .pending → exec (.roundClaim [n]) s = .next (s.answered 0xB1 [0x0B])) ∧
        (e.status = .pending → s.round.active.isSome = true →
          exec (.roundClaim [n]) s = .next (s.answered 0xB1 [0x10])) ∧
        (e.status = .pending → s.round.active = none → s.sups[c].condition ≠ .inService →
          ¬(s.sups[c].condition = .outOfService ∧ s.sups[c].reason = some .withdrawn) →
          exec (.roundClaim [n]) s = .next (s.answered 0xB1 [0x11]))) ∧
  (∀ (s : State) (n : Byte) (c : Column) (e : ManifestEntry), s.chosen → s.host.inHand = none →
    n.toNat = c.val → s.round.state = .open → s.round.entryOf c = some e → e.status = .pending →
    s.round.active = none → (s.round.manifest.map (·.column)).Nodup →
    (s.sups[c].condition = .inService ∨
      s.sups[c].condition = .outOfService ∧ s.sups[c].reason = some .withdrawn) →
    let latchHolds := s.sups[c].latch = .home ∧ s.sups[c].drive = .off ∧
      s.sups[c].homeContact.level = true ∧ s.sups[c].releasedContact.level = false
    ∃ t, exec (.roundClaim [n]) s = .next t ∧
      (∀ d, t.round.entryOf c = some d → d.fillBefore = some s.fills[c].estimate) ∧
      t.round.supervision = .counting (s.now + s.profile.keepTime * 1000) ∧ PutBack c s t ∧
      (s.access[c].state = .locked → latchHolds →
        t.replies 0xB1 [0x00, 1, 0, 2] ∧ t.round.stage = some .permitted ∧
          t.sups[c] = { s.sups[c] with permit := true } ∧ t.journal = s.journal ∧
          t.access[c] = { s.access[c] with drainMark := false } ∧ t.alerts = s.alerts) ∧
      (s.access[c].state = .locked → ¬latchHolds →
        t.replies 0xB1 [0x00, 2, 3, 0] ∧ t.round.stage = none ∧
          t.sups[c].permit = s.sups[c].permit ∧ t.sups[c].condition = .outOfService ∧
          t.sups[c].reason = some .latchFault ∧
          t.journal.records = s.journal.records ++
            [{ seq := s.journal.nextSeq, column := c, time := s.clock.reading,
               flags := { timeUnset := !s.clock.timeSet, late := false, interrupted := false,
                          provisional := false, residue := false, fillAfterPresent := false },
               period := s.period,
               body := .emptying (s.round.id.getD 0) (s.round.vehicle.getD 0) .failed
                 (some .latch) s.fills[c].estimate none }] ∧
          t.journal.reservations = s.journal.reservations - 1) ∧
      (s.access[c].state = .releasing →
        t.replies 0xB1 [0x00, 1, 0, 1] ∧
          t.access[c] = { s.access[c] with drainMark := true, cancelMark := true } ∧
          t.sups = s.sups ∧ t.journal = s.journal ∧ t.table = s.table) ∧
      (∀ g, s.access[c].state = .awaitOpen → s.access[c].context = some g →
        s.sups[c].homeAlone = false →
        t.replies 0xB1 [0x00, 1, 0, 1] ∧ t.access[c].state = .homing ∧
          t.access[c].grantTimer = none ∧ t.access[c].drainMark = true ∧
          t.access[c].denials = min 65535 (s.access[c].denials + 1) ∧
          t.reader = (handVerdict ⟨c, .cancelled, none, none⟩ s).reader ∧
          t.journal = { s.journal with reservations := s.journal.reservations - 1 } ∧
          t.table = (if g.service then s.table else s.table.refund g.card g.period s.period) ∧
          t.sups[c] = { s.sups[c] with
            latch := .homing, drive := .towardHome,
            travel := some (s.now + s.profile.travelLimit) }) ∧
      (s.access[c].state = .open ∨ s.access[c].state = .homing →
        t.replies 0xB1 [0x00, 1, 0, 1] ∧
          t.access[c] = { s.access[c] with drainMark := true } ∧
          t.sups = s.sups ∧ t.journal = s.journal ∧ t.table = s.table))

/-- ROUND SKIP, its checks in order, gives an entry up with its record; a permit is withdrawn and a
drain ended with it; the supervision timer is reloaded, and counts unless another entry's stage holds it
(R81, R114, R129). -/
def Obligations.RoundSkipped : Prop :=
  ∀ (s : State) (n : Byte), s.chosen → s.host.inHand = none →
    (12 ≤ n.toNat → exec (.roundSkip [n]) s = .next (s.answered 0xB2 [0x04])) ∧
    ∀ c : Column, n.toNat = c.val →
      (s.round.state ≠ .open → exec (.roundSkip [n]) s = .next (s.answered 0xB2 [0x0D])) ∧
      (s.round.state = .open → s.round.entryOf c = none →
        exec (.roundSkip [n]) s = .next (s.answered 0xB2 [0x0E])) ∧
      ∀ e, s.round.state = .open → s.round.entryOf c = some e →
        let late := s.round.stage = some .lifted ∨ s.round.stage = some .settling ∨
          s.round.stage = some .measuring
        (e.status = .done ∨ e.status = .active ∧ late →
          exec (.roundSkip [n]) s = .next (s.answered 0xB2 [0x0B])) ∧
        (e.status = .pending ∨ e.status = .active ∧ ¬late →
          (s.round.manifest.map (·.column)).Nodup →
          ∃ t, exec (.roundSkip [n]) s = .next t ∧ t.replies 0xB2 [0x00] ∧
            (∃ d, t.round.entryOf c = some d ∧ d.status = .done ∧ d.outcome = some .skipped ∧
              d.failReason = none ∧ d.fillAfter = none) ∧
            t.journal.records = s.journal.records ++
              [{ seq := s.journal.nextSeq, column := c, time := s.clock.reading,
                 flags := { timeUnset := !s.clock.timeSet, late := false, interrupted := false,
                            provisional := false, residue := false, fillAfterPresent := false },
                 period := s.period,
                 body := .emptying (s.round.id.getD 0) (s.round.vehicle.getD 0) .skipped none
                   (e.fillBefore.getD s.fills[c].estimate) none }] ∧
            t.journal.reservations = s.journal.reservations - 1 ∧ t.round.state = .open ∧
            (RoundLaw s →
              t.round.supervision =
                if e.status = .pending ∧ s.round.active.isSome = true ∧
                    s.round.stage ≠ some .draining ∧ s.round.stage ≠ some .permitted then
                  .held (s.profile.keepTime * 1000)
                else .counting (s.now + s.profile.keepTime * 1000)) ∧
            (e.status = .active → s.round.stage = some .permitted → t.sups[c].permit = false) ∧
            (e.status = .active → s.round.stage = some .draining →
              t.access[c].drainMark = false ∧ t.access[c].state = s.access[c].state) ∧
            (e.status = .pending → t.access = s.access ∧ t.sups = s.sups))

/-- ROUND KEEP reloads the supervision timer and nothing else (R116). ROUND CLOSE is refused with an ACTIVE
entry, and otherwise makes every PENDING entry SKIPPED, writes their records in manifest order, raises
ROUND ENDED and leaves the round CLOSED (R128, R130); an append that brings the journal to 1,792 records
raises JOURNAL HIGH first (R147). -/
def Obligations.RoundKeptAndClosed : Prop :=
  ∀ s : State, s.chosen → s.host.inHand = none →
    (s.round.state ≠ .open → exec (.roundKeep []) s = .next (s.answered 0xB3 [0x0D]) ∧
      exec (.roundClose []) s = .next (s.answered 0xB4 [0x0D])) ∧
    (s.round.state = .open →
      exec (.roundKeep []) s = .next
        { s.answered 0xB3 ([0x00] ++ bytes 2 s.profile.keepTime) with
          round := { s.round with
            supervision :=
              if s.round.shouldCount then .counting (s.now + s.profile.keepTime * 1000)
              else .held (s.profile.keepTime * 1000) } }) ∧
    (s.round.state = .open → s.round.active.isSome = true →
      exec (.roundClose []) s = .next (s.answered 0xB4 [0x10])) ∧
    (s.round.state = .open → s.round.active = none → (s.round.manifest.map (·.column)).Nodup →
      let open_ := s.round.manifest.filter fun e => decide (e.status = .pending)
      let high := s.journal.highArmed = true ∧ s.journal.records.length < 1792 ∧
        1792 ≤ s.journal.records.length + open_.length
      exec (.roundClose []) s = .next
        { s.answered 0xB4 [0x00, byte open_.length] with
          round := { s.round with
            state := .closed, supervision := .held 0,
            manifest := s.round.manifest.map fun e =>
              if e.status = .pending then
                { e with
                  status := .done, outcome := some .skipped, failReason := none,
                  fillAfter := none, residue := false }
              else e },
          journal := { s.journal with
            records := s.journal.records ++ open_.mapIdx fun i e =>
              { seq := s.journal.nextSeq + BitVec.ofNat 32 i, column := e.column,
                time := s.clock.reading,
                flags := { timeUnset := !s.clock.timeSet, late := false, interrupted := false,
                           provisional := false, residue := false, fillAfterPresent := false },
                period := s.period,
                body := .emptying (s.round.id.getD 0) (s.round.vehicle.getD 0) .skipped none
                  (e.fillBefore.getD s.fills[e.column].estimate) none },
            reservations := s.journal.reservations - open_.length,
            nextSeq := s.journal.nextSeq + BitVec.ofNat 32 open_.length,
            highArmed := s.journal.highArmed && !decide high },
          alerts :=
            (if high then s.alerts.raise .journalHigh none s.clock.reading
             else s.alerts).raise .roundEnded none s.clock.reading })

/-- The round's timers: the supervision timer's expiry fails the active entry with TIMEOUT, aborts
the PENDING ones and the round (R115); the settle timer's expiry makes the stage MEASURING with the
column at the head of the forced queue, and a free engine measures it at once if it is eligible (R91,
R93, R123). The moment of an expiry is the model's choice, log 2, and that the engine chooses at the end
of the event log 7. -/
def Obligations.RoundTimersExpire : Prop :=
  (∀ (s : State) (due : Nat), s.round.state = .open → s.round.shouldCount = true →
    s.round.supervision = .counting due → RoundLaw s →
    ∃ t, exec .supervisionTimerExpiry s = .next t ∧ t.round.state = .aborted ∧
      t.round.supervision = .held 0 ∧ (∀ e ∈ t.round.manifest, e.status = .done) ∧
      (t.round.manifest.map (·.column)) = (s.round.manifest.map (·.column)) ∧
      (∀ a, s.round.active = some a →
        (∃ d, t.round.entryOf a.column = some d ∧ d.outcome = some .failed ∧
          d.failReason = some .timeout) ∧ t.round.stage = none ∧
        (s.round.stage = some .permitted → t.sups[a.column].permit = false) ∧
        (s.round.stage = some .draining → t.access[a.column].drainMark = false)) ∧
      (∀ e ∈ s.round.manifest, e.status = .pending →
        ∃ d, t.round.entryOf e.column = some d ∧ d.outcome = some .aborted) ∧
      t.journal.records.length = s.journal.records.length + entriesOwing s ∧
      (s.alerts.entries = [] → (⟨.roundAborted, none, 1, s.clock.reading, s.clock.reading⟩ :
        AlertEntry) ∈ t.alerts.entries)) ∧
  (∀ (s : State) (due : Nat) (e : ManifestEntry), s.round.settleTimer = some due →
    s.round.active = some e → s.round.stage = some .settling → s.ranging.burst.isSome = true →
    exec .settleTimerExpiry s = .next
      { s with
        now := max s.now due,
        ranging := { s.ranging with queue := e.column :: s.ranging.queue.erase e.column },
        round := { s.round with
          stage := some .measuring, settleTimer := none,
          supervision := .held (s.round.timeLeft (max s.now due)) } }) ∧
  (∀ (s : State) (due : Nat) (e : ManifestEntry), s.round.settleTimer = some due →
    s.round.active = some e → s.round.stage = some .settling → s.ranging.burst = none →
    s.ranging.pause.isSome = true →
    let now := max s.now due
    let p := s.sups[e.column]
    let still := (p.condition = .inService ∨ p.condition = .outOfService) ∧ p.lift.level = true ∧
      p.hatchOpen = false ∧ s.access[e.column].state = .locked
    (still →
      exec .settleTimerExpiry s = .next
        { s with
          now := now,
          ranging := { s.ranging with
            burst := some
              { column := e.column, purpose := .emptying, start := now, window := none,
                results := [], blanking := s.profile.blanking },
            queue := s.ranging.queue.erase e.column, rsel := e.column },
          round := { s.round with
            stage := some .measuring, settleTimer := none,
            supervision := .held (s.round.timeLeft now) } }) ∧
    (¬still →
      ∃ t, exec .settleTimerExpiry s = .next t ∧ t.now = now ∧
        t.ranging.queue.head? = some e.column ∧ t.round.stage = some .measuring ∧
        t.round.settleTimer = none))

/-! ### Billing journal (07) -/

/-- JOURNAL READ delivers from the read mark onward (R145) and JOURNAL RELEASE removes delivered
records from the head (R146). -/
def Obligations.JournalReadAndReleased : Prop :=
  ∀ s : State, s.chosen → s.host.inHand = none →
    (∀ n restart : Byte,
      exec (.journalRead [n, restart]) s = .next
        (if n.toNat = 0 ∨ 8 < n.toNat ∨ 1 < restart.toNat then s.answered 0xC0 [0x04]
         else
          let mark := if restart = 1 then 0 else s.journal.readMark
          let out := (s.journal.records.drop mark).take n.toNat
          { s.answered 0xC0
              ([0x00, byte out.length] ++ bytes 2 s.journal.records.length ++
                bytes 2 (mark + out.length) ++
                out.flatMap fun r => byte r.bytes.length :: r.bytes) with
            journal := { s.journal with readMark := mark + out.length } })) ∧
    (∀ n1 n0 : Byte,
      let n := n1.toNat * 256 + n0.toNat
      let left := s.journal.records.drop n
      exec (.journalRelease [n1, n0]) s = .next
        (if n = 0 ∨ s.journal.readMark < n then s.answered 0xC1 [0x04]
         else
          { s.answered 0xC1
              ([0x00] ++ bytes 2 left.length ++ bytes 2 (s.journal.readMark - n) ++
                match left with
                | [] => [0, 0, 0, 0, 0]
                | r :: _ => [1] ++ bytes 4 r.seq.toNat) with
            journal := { s.journal with
              records := left, readMark := s.journal.readMark - n,
              highArmed := s.journal.highArmed || decide (left.length < 1792) } }))

/-- An append stamps a record with the next sequence number and the clock and puts it at the tail into
a reservation; the one that brings the records held to 1,792 raises JOURNAL HIGH while the mark is
armed and disarms it (R135, R141, R147). -/
def Obligations.AppendStampsAndWarns : Prop :=
  ∀ (s : State) (c : Column) (flags : RecordFlags) (period : BitVec 16) (body : RecordBody),
    let high := s.journal.records.length = 1791 ∧ s.journal.highArmed = true
    let t := appendRecord c flags period body s
    t = { s with
          journal :=
            { records := s.journal.records ++
                [{ seq := s.journal.nextSeq, column := c,
                   time := { day := s.clock.day, second := s.clock.second },
                   flags := { flags with timeUnset := !s.clock.timeSet },
                   period := period, body := body }],
              reservations := s.journal.reservations - 1, readMark := s.journal.readMark,
              nextSeq := s.journal.nextSeq + 1,
              highArmed := s.journal.highArmed && decide (s.journal.records.length ≠ 1791) },
          alerts :=
            if high then s.alerts.raise .journalHigh none s.clock.reading else s.alerts }

/-! ### Access (04) -/

/-- A PRESENT refused by the first check of R60 to R62 that fails: its verdict is handed on, the
denial counter rises, and nothing else changes. A PRESENT begun while a verdict is sent is not
received, and one completed while the blocks take a restart is discarded without verdict (R173). A
waiting verdict begins first by the model's choice, log 11; the line during a verdict is log 10. What the
checks read: a column is in its quiet window only with the clock set, the window wrapping past midnight
where its start is not below its end (R48); the lookup finds any card of the service range as a crew card
while provisional access is in force, and else the card's entry with its effective remaining (R22, R42);
R61's check of the condition and R62's of the column restriction. -/
def Obligations.PresentRefused : Prop :=
  (∀ (s : State) (c : Column) (card : CardNumber), s.chosen →
     let refused (v : VerdictCode) (remaining : Option Nat) (redirect : Option Column) : Prop :=
       exec (.present c card) s = .next
         (handVerdict { column := c, code := v, remaining := remaining, redirect := redirect }
           { readerFrameEnds s with
             access := s.access.set c
               { s.access[c] with denials := min 65535 (s.access[c].denials + 1) } })
     (s.reader.sending.isSome = true → exec (.present c card) s = .next s) ∧
     (s.reader.sending = none → s.restarting = true →
       exec (.present c card) s = .next (readerFrameEnds s)) ∧
     (s.reader.sending = none → s.restarting = false →
       (s.sups[c].condition = .disabled → refused .outOfService none none) ∧
       (s.sups[c].condition ≠ .disabled → s.access[c].state ≠ .locked → refused .busy none none) ∧
       (s.sups[c].condition ≠ .disabled → s.access[c].state = .locked →
         (s.round.claims c = true → refused .round none none) ∧
         (s.round.claims c = false →
           (lookupPresent card s = none → refused .unknownCard none none) ∧
           ∀ f, lookupPresent card s = some f →
             (f.host.blocked = true → refused .blocked none none) ∧
             (f.host.blocked = false → f.host.cls = .crew →
               (s.sups[c].admitsCrew = false → refused .outOfService none none) ∧
               (s.sups[c].admitsCrew = true →
                 2036 ≤ s.journal.records.length + s.journal.reservations →
                 refused .journalFull none none)) ∧
             (f.host.blocked = false → f.host.cls ≠ .crew →
               (s.sups[c].condition ≠ .inService → refused .outOfService none none) ∧
               (s.sups[c].condition = .inService →
                 let fits := f.host.fractions.getLsbD s.profile.columns[c].fraction.val = true
                 (¬fits → refused .wrongFraction none none) ∧
                 (fits → f.host.admitsColumn c = false → refused .notHere none none) ∧
                 (fits → f.host.admitsColumn c = true → quiet s c = true →
                   refused .quietHours none none) ∧
                 (fits → f.host.admitsColumn c = true → quiet s c = false →
                   (s.fills[c].band = .full → refused .full none (redirect s f.host c)) ∧
                   (s.fills[c].band ≠ .full → f.effective = 0 →
                     refused .quotaSpent (some 0) none) ∧
                   (s.fills[c].band ≠ .full → f.effective ≠ 0 →
                     2016 ≤ s.journal.records.length + s.journal.reservations →
                     refused .journalFull none none)))))))) ∧
  (∀ (s : State) (c : Column),
    let minute := s.clock.second / 60
    (quiet s c = true ↔ ∃ start stop, s.profile.columns[c].quietWindow = some (start, stop) ∧
      s.clock.timeSet = true ∧
      ((start < stop ∧ start ≤ minute ∧ minute < stop) ∨
        (stop ≤ start ∧ (start ≤ minute ∨ minute < stop)))) ∧
    (s.sups[c].admitsCrew = true ↔ s.sups[c].condition = .inService ∨
      s.sups[c].condition = .outOfService ∧
        (s.sups[c].reason = some .withdrawn ∨ s.sups[c].reason = some .hatchFault ∨
          s.sups[c].reason = some .forcedHatch)) ∧
    (∀ h : HostFields, h.admitsColumn c = true ↔
      ∀ set, h.restriction = some set → set.getLsbD c.val = true)) ∧
  (∀ (s : State) (card : CardNumber),
    (s.table.provisional = true →
      lookupPresent card s =
        if s.profile.rangeLow ≤ card.toNat ∧ card.toNat ≤ s.profile.rangeHigh then
          some
            { host :=
                { card := card, cls := .crew, fractions := 0, tariff := 0, allowance := 0,
                  blocked := false, restriction := none },
              effective := 0, provisional := true }
        else none) ∧
    (s.table.provisional = false →
      (card = 0 ∨ (∀ b : Fin 64, ∀ e ∈ s.table.blocks[b].entries, e.host.card ≠ card) →
        lookupPresent card s = none) ∧
      (card ≠ 0 → s.table.cards.Nodup → ∀ (b : Fin 64), ∀ e ∈ s.table.blocks[b].entries,
        e.host.card = card →
        lookupPresent card s =
          some { host := e.host, effective := e.effective s.period, provisional := false })))

/-- The redirect of a FULL verdict is a column where this card could deposit this fraction now, the
emptiest of them, and among equals the lowest; there is none only if no column qualifies (R62). -/
def Obligations.RedirectNamesEmptiestColumn : Prop :=
  ∀ (s : State) (h : HostFields) (c : Column),
    let qualifies (k : Column) : Prop :=
      k ≠ c ∧ s.profile.columns[k].fraction = s.profile.columns[c].fraction ∧
        s.sups[k].condition = .inService ∧ s.access[k].state = .locked ∧
        s.round.claims k = false ∧ s.fills[k].band ≠ .full ∧ h.admitsColumn k = true ∧
        quiet s k = false
    (redirect s h c = none ↔ ∀ k, ¬qualifies k) ∧
    ∀ k, redirect s h c = some k ↔
      qualifies k ∧ ∀ j, qualifies j →
        s.fills[k].estimate < s.fills[j].estimate ∨
          s.fills[k].estimate = s.fills[j].estimate ∧ k ≤ j

/-- A PRESENT that passes every check is granted: charge, reservation, context, RELEASING and the release
of the latch; no verdict is made yet (R5, R58, R64). Over a latch that is not HOME the release fails at
once: LATCH FAULT, the FAULT verdict, the charge and the reservation returned, the latch rest, LOCKED
(R5, R70, R71). A waiting verdict begins first by the model's choice, log 11; the engine chooses last,
log 7; the travel timer stops at a refused release, log 13. -/
def Obligations.PresentGranted : Prop :=
  ∀ (s : State) (c : Column) (card : CardNumber) (f : Found), s.reader.sending = none →
    s.restarting = false → s.access[c].state = .locked → s.round.claims c = false →
    lookupPresent card s = some f → f.host.blocked = false →
    (f.host.cls = .crew → s.sups[c].admitsCrew = true ∧
      s.journal.records.length + s.journal.reservations < 2036) →
    (f.host.cls ≠ .crew → s.sups[c].condition = .inService ∧
      f.host.fractions.getLsbD s.profile.columns[c].fraction.val = true ∧
      f.host.admitsColumn c = true ∧ quiet s c = false ∧ s.fills[c].band ≠ .full ∧
      f.effective ≠ 0 ∧ s.journal.records.length + s.journal.reservations < 2016) →
    (s.sups[c].latch = .home →
      ∃ t, exec (.present c card) s = .next t ∧
        t.table = (if f.host.cls = .crew then s.table else (s.table.charge card s.period).1) ∧
        t.journal = { s.journal with reservations := s.journal.reservations + 1 } ∧
        t.access = s.access.set c
          { s.access[c] with
            state := .releasing, rest := none,
            context := some
              { card := card, cls := f.host.cls, tariff := f.host.tariff,
                fraction := s.profile.columns[c].fraction, period := s.period,
                provisional := f.provisional, service := decide (f.host.cls = .crew),
                hatchOpened := false, late := false, openStart := none,
                remaining :=
                  if f.host.cls = .crew then none else (s.table.charge card s.period).2 } } ∧
        t.sups = s.sups.set c
          { s.sups[c] with
            latch := .releasing, drive := .towardReleased,
            travel := some (s.now + s.profile.travelLimit) } ∧
        PutBack c s t ∧ t.reader = (readerFrameEnds s).reader ∧
        t.fills = s.fills ∧ t.alerts = s.alerts ∧ t.round = s.round ∧ t.host = s.host) ∧
    (s.sups[c].latch ≠ .home →
      ∃ t, exec (.present c card) s = .next t ∧
        t.table = (if f.host.cls = .crew then s.table
          else (s.table.charge card s.period).1.refund card s.period s.period) ∧
        t.journal = s.journal ∧
        t.access = s.access.set c
          { s.access[c] with
            state := .locked, context := none, cancelMark := false, rest := some (s.now + 5000),
            denials := min 65535 (s.access[c].denials + 1) } ∧
        t.sups = s.sups.set c
          { s.sups[c] with
            drive := .off, travel := none, condition := .outOfService,
            reason :=
              if s.sups[c].condition = .inService then some .latchFault
              else some (settleReason .latchFault s.sups[c].reason) } ∧
        t.reader = (handVerdict ⟨c, .fault, none, none⟩ (readerFrameEnds s)).reader ∧
        t.alerts = s.alerts.raise .latchFault (some c) s.clock.reading ∧ t.fills = s.fills ∧
        PutBack c s t ∧ t.round = s.round ∧ t.host = s.host)

/-- The verdict of a grant is made when its latch reports RELEASED, with the grant timer, or at once
when the hatch opens before that; either way an opening under the grant starts the open timer
(R66, R67, R69, R72, R73). -/
def Obligations.GrantReportedAndOpened : Prop :=
  ∀ (s : State) (c : Column) (g : GrantContext), s.access[c].context = some g →
    let verdict : Verdict :=
      { column := c, code := if g.service then .serviceGrant else .grant,
        remaining := if g.service then none else g.remaining, redirect := none }
    let limit := if g.service then s.profile.crewOpenLimit else s.profile.hatchOpenLimit
    let opened : Access :=
      { s.access[c] with
        state := .open, grantTimer := none, cancelMark := false,
        openTimer := some (s.now + limit * 1000),
        context := some { g with hatchOpened := true, openStart := some s.now } }
    (s.access[c].state = .releasing → s.access[c].cancelMark = false →
      accessReleased c s =
        { handVerdict verdict s with
          access := s.access.set c
            { s.access[c] with
              state := .awaitOpen, grantTimer := some (s.now + s.profile.grantLimit * 1000) } }) ∧
    (s.access[c].state = .releasing →
      accessOpened c s = { handVerdict verdict s with access := s.access.set c opened }) ∧
    (s.access[c].state = .awaitOpen →
      accessOpened c s = { s with access := s.access.set c opened })

/-- HATCH CLOSED ends an opening under a grant: a deposit adds the increment, writes an INSERTION
record, counts the use and the insertion and homes the latch; a service opening writes a SERVICE OPEN
record and changes no fill (R74, R75). Without a grant it records nothing and homes the latch, and a
latch already HOME takes the machine to LOCKED (R77, R79). The moment of a taken change is the model's
choice, log 2; so is the use count of a provisional grant whose number the table has taken since, log
30. -/
def Obligations.HatchClosedCompletesGrant : Prop :=
  (∀ (s : State) (c : Column) (g : GrantContext), s.sups[c].hatch.level = false →
     s.sups[c].lift.level = true → s.sups[c].condition ≠ .absent →
     s.sups[c].condition ≠ .disabled → s.access[c].state = .open → s.access[c].context = some g →
     let now := match s.sups[c].hatch.hold with
       | none => s.now
       | some t => max s.now (t + 20)
     let est := min 200 (s.fills[c].estimate + s.profile.columns[c].increment)
     let record : Record :=
       { seq := s.journal.nextSeq, column := c, time := s.clock.reading,
         flags := { timeUnset := !s.clock.timeSet, late := g.late, interrupted := false,
                    provisional := g.service && g.provisional, residue := false,
                    fillAfterPresent := false },
         period := g.period,
         body := if g.service then
             .serviceOpen g.card (min 65535 ((now - g.openStart.getD now) / 1000))
           else .insertion g.card g.cls g.tariff g.fraction est }
     ∃ t, exec (.hatchClosed c) s = .next t ∧ t.now = now ∧ t.sups[c].hatchOpen = false ∧
       (s.journal.records ++ [record]) <+: t.journal.records ∧
       t.table = s.table.useCount g.card ∧ t.reader = s.reader ∧
       (g.service = true → t.fills = s.fills ∧
         t.access[c].insertions = s.access[c].insertions) ∧
       (g.service = false →
         t.fills[c].estimate = est ∧ t.fills[c].since = min 255 (s.fills[c].since + 1) ∧
         t.fills[c].band =
           nextBand s.profile.nearFull s.profile.full s.fills[c].band est ∧
         t.access[c].insertions = s.access[c].insertions + 1) ∧
       t.access[c].openTimer = none ∧ t.access[c].denials = s.access[c].denials ∧
       (s.sups[c].homeAlone = false →
         t.access[c].state = .homing ∧ t.sups[c].latch = .homing ∧
           t.sups[c].drive = .towardHome ∧ t.sups[c].travel = some (now + s.profile.travelLimit) ∧
           t.journal = (appendRecord c { record.flags with timeUnset := false } g.period record.body
             s).journal) ∧
       (s.sups[c].homeAlone = true →
         t.access[c].state = .locked ∧ t.access[c].context = none ∧ t.sups[c].latch = .home)) ∧
  (∀ (s : State) (c : Column), s.sups[c].hatch.level = false → s.sups[c].lift.level = true →
    s.sups[c].condition ≠ .absent → s.sups[c].condition ≠ .disabled →
    s.access[c].state = .open → s.access[c].context = none →
    let p := s.sups[c]
    let a := s.access[c]
    let now := match p.hatch.hold with
      | none => s.now
      | some t => max s.now (t + 20)
    let shut : Supervisor :=
      { p with hatch := { pin := true, level := true, hold := none }, hatchOpen := false }
    ∃ t, exec (.hatchClosed c) s = .next t ∧ t.now = now ∧ s.journal.records <+: t.journal.records ∧
      t.table = s.table ∧ t.fills = s.fills ∧ t.reader = s.reader ∧ t.host = s.host ∧
      t.access[c].context = none ∧ t.access[c].openTimer = none ∧
      t.access[c].insertions = a.insertions ∧ t.access[c].denials = a.denials ∧
      (∀ k : Column, k ≠ c → t.sups[k] = s.sups[k] ∧ t.access[k] = s.access[k]) ∧
      (p.homeAlone = false →
        t.access[c] = { a with state := .homing, grantTimer := none, openTimer := none } ∧
          t.sups[c] =
            { shut with
              latch := .homing, drive := .towardHome,
              travel := some (now + s.profile.travelLimit) } ∧
          t.journal = s.journal ∧ t.alerts = s.alerts) ∧
      (p.homeAlone = true → a.drainMark = false →
        t.access[c] =
          { a with state := .locked, grantTimer := none, openTimer := none, cancelMark := false } ∧
          t.sups[c] = { shut with latch := .home, drive := .off, travel := none } ∧
          t.journal = s.journal ∧ t.alerts = s.alerts))

/-- The timers of an access machine: a grant lapses, an opening outruns its limit, and the latch
rest ends in one home request (R71, R72, R73, R79). The moment of an expiry is the model's choice,
log 2. -/
def Obligations.AccessTimersExpire : Prop :=
  ∀ (s : State) (c : Column), s.chosen →
    (∀ due g, s.access[c].grantTimer = some due → s.access[c].state = .awaitOpen →
      s.access[c].context = some g → s.sups[c].homeAlone = false →
      let now := max s.now due
      ∃ t, exec (.grantTimerExpiry c) s = .next t ∧ t.now = now ∧
        t.access = s.access.set c
          { s.access[c] with
            state := .homing, grantTimer := none, openTimer := none,
            denials := min 65535 (s.access[c].denials + 1) } ∧
        t.journal = { s.journal with reservations := s.journal.reservations - 1 } ∧
        t.table = (if g.service then s.table else s.table.refund g.card g.period s.period) ∧
        t.reader = (handVerdict ⟨c, .lapsed, none, none⟩ s).reader ∧
        t.sups = s.sups.set c
          { s.sups[c] with
            latch := .homing, drive := .towardHome,
            travel := some (now + s.profile.travelLimit) } ∧
        t.alerts = s.alerts ∧ t.round = s.round ∧ t.fills = s.fills) ∧
    (∀ due, s.access[c].openTimer = some due → s.access[c].state = .open →
      s.sups[c].condition ≠ .disabled →
      exec (.openTimerExpiry c) s = .next
        { s with
          now := max s.now due,
          access := s.access.set c
            { s.access[c] with
              openTimer := none,
              context := s.access[c].context.map fun g => { g with late := true } },
          sups := s.sups.set c
            { s.sups[c] with
              condition :=
                if s.sups[c].condition = .inService then .outOfService else s.sups[c].condition,
              reason :=
                if s.sups[c].condition = .inService then some .hatchFault
                else some (settleReason .hatchFault s.sups[c].reason) },
          alerts := s.alerts.raise .hatchFault (some c) s.clock.reading }) ∧
    (∀ due, s.access[c].rest = some due → s.access[c].state = .locked →
      exec (.latchRestExpiry c) s = .next
        { s with
          now := max s.now due,
          access := s.access.set c { s.access[c] with rest := none },
          sups := s.sups.set c
            (if s.sups[c].latch = .home then s.sups[c]
             else if s.sups[c].homeAlone then
               { s.sups[c] with latch := .home, drive := .off, travel := none }
             else
               { s.sups[c] with
                 latch := .homing, drive := .towardHome,
                 travel := some (max s.now due + s.profile.travelLimit) }) })

/-! ### Inputs, hatch and lift (01 1.2, 1.5) -/

/-- A raw change of level starts a hold, a return to the filtered level leaves no trace, and the
change is taken once the level has held for 20 ms (R3). That a completed hold is an event of the
model's tick is log 1 and 2. -/
def Obligations.InputsHeldTwentyMilliseconds : Prop :=
  ∀ (s : State) (c : Column) (i : Input), s.chosen →
    let f := s.sups[c].filter i
    (∀ closed : Bool, ∃ t, exec (.inputLevelChange c i closed) s = .next { s with sups := t } ∧
      (∀ k : Column, k ≠ c → t[k] = s.sups[k]) ∧
      (∀ j : Input, j ≠ i → t[c].filter j = s.sups[c].filter j) ∧
      t[c].filter i =
        (if f.pin = closed then f
         else if f.level = closed then { pin := closed, level := f.level, hold := none }
         else { pin := closed, level := f.level, hold := some s.now }) ∧
      t[c].condition = s.sups[c].condition ∧ t[c].reason = s.sups[c].reason ∧
      t[c].latch = s.sups[c].latch ∧ t[c].drive = s.sups[c].drive ∧
      t[c].travel = s.sups[c].travel ∧ t[c].hatchOpen = s.sups[c].hatchOpen ∧
      t[c].permit = s.sups[c].permit) ∧
    let taken : Instr :=
      match i with
      | .hatch => if f.pin then .hatchClosed c else .hatchOpened c
      | .lift => if f.pin then .liftIn c else .liftOut c
      | .contact k => .latchContactChange c k f.pin
    (taken ∈ dueEvents s ↔ ∃ start, f.hold = some start ∧ start + 20 ≤ s.now)

/-- An opening the part did not grant, in LOCKED or HOMING, takes FORCED HATCH once, leaves the
machine OPEN without a context, and takes the column from the engine; one in AWAIT OPEN begins the
grant's opening, and so does one in RELEASING, with the grant's verdict, the cancel mark cleared and the
travel going on; one under a permit fails the entry with FORCED HATCH, withdraws the permit and writes
its record; an ignored or DISABLED hatch reports nothing; a burst on the column
is abandoned and the column put back into the forced queue (R4, R8, R69, R72, R78, R89, R125). The moment of a
taken change is the model's choice, log 2; that the engine chooses last is log 7. -/
def Obligations.HatchOpeningJudged : Prop :=
  ∀ (s : State) (c : Column), s.chosen → s.sups[c].hatch.level = true →
    let p := s.sups[c]
    let a := s.access[c]
    let now := match p.hatch.hold with
      | none => s.now
      | some start => max s.now (start + 20)
    (p.condition = .absent ∨ p.lift.level = false →
      exec (.hatchOpened c) s = .next
        { s with
          now := now,
          sups := s.sups.set c { p with hatch := { pin := false, level := false, hold := none } } }) ∧
    (p.condition = .disabled → p.lift.level = true →
      exec (.hatchOpened c) s = .next
        { s with
          now := now,
          sups := s.sups.set c
            { p with
              hatch := { pin := false, level := false, hold := none }, hatchOpen := true } }) ∧
    (p.condition = .inService ∨ p.condition = .outOfService → p.lift.level = true →
      s.round.inStage c .permitted = false →
      (a.state = .locked ∨ a.state = .homing →
        ∃ t, exec (.hatchOpened c) s = .next t ∧ t.now = now ∧
          t.sups = s.sups.set c
            { p with
              hatch := { pin := false, level := false, hold := none }, hatchOpen := true,
              condition := .outOfService,
              reason :=
                if p.condition = .inService then some .forcedHatch
                else some (settleReason .forcedHatch p.reason) } ∧
          t.access = s.access.set c
            { a with
              state := .open, context := none, rest := none,
              openTimer := some (now + s.profile.hatchOpenLimit * 1000) } ∧
          t.alerts = s.alerts.raise .forcedHatch (some c) s.clock.reading ∧
          PutBack c s t ∧
          t.round = s.round ∧ t.journal = s.journal ∧ t.table = s.table ∧ t.fills = s.fills ∧
          t.reader = s.reader ∧ t.host = s.host) ∧
      (∀ g, a.state = .awaitOpen → a.context = some g →
        ∃ t, exec (.hatchOpened c) s = .next t ∧ t.now = now ∧
          t.sups = s.sups.set c
            { p with
              hatch := { pin := false, level := false, hold := none }, hatchOpen := true } ∧
          t.access = s.access.set c
            { a with
              state := .open, grantTimer := none, cancelMark := false,
              openTimer := some (now +
                (if g.service then s.profile.crewOpenLimit else s.profile.hatchOpenLimit) * 1000),
              context := some { g with hatchOpened := true, openStart := some now } } ∧
          t.alerts = s.alerts ∧ t.round = s.round ∧ t.journal = s.journal ∧ t.table = s.table ∧
          t.fills = s.fills ∧ t.reader = s.reader ∧ t.host = s.host) ∧
      (∀ g, a.state = .releasing → a.context = some g →
        ∃ t, exec (.hatchOpened c) s = .next t ∧ t.now = now ∧
          t.sups = s.sups.set c
            { p with
              hatch := { pin := false, level := false, hold := none }, hatchOpen := true } ∧
          t.access = s.access.set c
            { a with
              state := .open, grantTimer := none, cancelMark := false,
              openTimer := some (now +
                (if g.service then s.profile.crewOpenLimit else s.profile.hatchOpenLimit) * 1000),
              context := some { g with hatchOpened := true, openStart := some now } } ∧
          t.reader = (handVerdict
            { column := c, code := if g.service then .serviceGrant else .grant,
              remaining := if g.service then none else g.remaining, redirect := none } s).reader ∧
          t.alerts = s.alerts ∧ t.round = s.round ∧ t.journal = s.journal ∧ t.table = s.table ∧
          t.fills = s.fills ∧ t.host = s.host)) ∧
    (∀ e, p.condition = .inService ∨ p.condition = .outOfService → p.lift.level = true →
      s.round.state = .open → RoundLaw s → s.round.active = some e → e.column = c →
      s.round.stage = some .permitted → a.state = .locked →
      ∃ t, exec (.hatchOpened c) s = .next t ∧ t.now = now ∧
        t.sups = s.sups.set c
          { p with
            hatch := { pin := false, level := false, hold := none }, hatchOpen := true,
            permit := false, condition := .outOfService,
            reason :=
              if p.condition = .inService then some .forcedHatch
              else some (settleReason .forcedHatch p.reason) } ∧
        t.access = s.access.set c
          { a with
            state := .open, context := none, rest := none,
            openTimer := some (now + s.profile.hatchOpenLimit * 1000) } ∧
        t.round =
          { s.round with
            stage := none, settleTimer := none, liftStart := none,
            supervision := .counting (now + s.profile.keepTime * 1000),
            manifest := s.round.manifest.map fun x =>
              if x.column = c then
                { x with
                  status := .done, outcome := some .failed, failReason := some .forcedHatch,
                  fillAfter := none, residue := false }
              else x } ∧
        t.journal.records = s.journal.records ++
          [{ seq := s.journal.nextSeq, column := c, time := s.clock.reading,
             flags := { timeUnset := !s.clock.timeSet, late := false, interrupted := false,
                        provisional := false, residue := false, fillAfterPresent := false },
             period := s.period,
             body := .emptying (s.round.id.getD 0) (s.round.vehicle.getD 0) .failed
               (some .forcedHatch) (e.fillBefore.getD s.fills[c].estimate) none }] ∧
        t.journal.reservations = s.journal.reservations - 1 ∧
        (s.journal.records.length ≠ 1791 →
          t.alerts = s.alerts.raise .forcedHatch (some c) s.clock.reading) ∧
        PutBack c s t ∧ t.table = s.table ∧
        t.fills = s.fills ∧ t.reader = s.reader ∧ t.host = s.host)

/-- A lift without permit: the column is ABSENT with reason UNAUTHORISED LIFT and its alert raised; a
grant before its opening lapses, one after it is recorded as interrupted, and the active entry fails
(R10, R82, R89, R126); that it fails in PERMITTED and LIFTED as in the stages of R126 is DEDUCED, log
31. The moment of a taken change is the model's choice, log 2; LOCKED comes last, log 8, the engine's
choice after it, log 7, and the use count of a provisional grant is log 30. -/
def Obligations.UnauthorisedLiftTaken : Prop :=
  ∀ (s : State) (c : Column), s.sups[c].lift.level = true → s.sups[c].condition ≠ .disabled →
    s.sups[c].permit = false →
    let p := s.sups[c]
    let a := s.access[c]
    let now := match p.lift.hold with
      | none => s.now
      | some start => max s.now (start + 20)
    ∃ t, exec (.liftOut c) s = .next t ∧ t.now = now ∧ t.sups[c].condition = .absent ∧
      t.sups[c].reason = some .unauthorisedLift ∧ t.sups[c].permit = false ∧
      t.sups[c].hatchOpen = false ∧
      t.sups[c].lift = { pin := false, level := false, hold := none } ∧
      (∀ k : Column, k ≠ c → t.sups[k] = s.sups[k] ∧ t.access[k] = s.access[k]) ∧
      PutBack c s t ∧ t.fills = s.fills ∧ t.host = s.host ∧
      (s.round.claims c = false →
        t.round = s.round ∧
        (a.state = .locked ∨ a.state = .homing →
          t.access[c] = { a with drainMark := if a.state = .locked then false else a.drainMark } ∧
          t.sups[c].latch = p.latch ∧ t.sups[c].drive = p.drive ∧ t.journal = s.journal ∧
          t.table = s.table ∧ t.reader = s.reader ∧
          t.alerts = s.alerts.raise .unauthorisedLift (some c) s.clock.reading) ∧
        (∀ g, a.state = .releasing ∨ a.state = .awaitOpen → a.context = some g →
          p.homeAlone = false →
          t.access[c] =
            { a with
              state := .homing, grantTimer := none, openTimer := none,
              denials := min 65535 (a.denials + 1) } ∧
          t.sups[c].latch = .homing ∧ t.sups[c].drive = .towardHome ∧
          t.sups[c].travel = some (now + s.profile.travelLimit) ∧
          t.journal = { s.journal with reservations := s.journal.reservations - 1 } ∧
          t.table = (if g.service then s.table else s.table.refund g.card g.period s.period) ∧
          t.reader = (handVerdict ⟨c, .lapsed, none, none⟩ s).reader) ∧
        (∀ g, a.state = .open → a.context = some g → p.homeAlone = false →
          t.access[c] =
            { a with
              state := .homing, context := none, grantTimer := none, openTimer := none,
              insertions := if g.service then a.insertions else a.insertions + 1 } ∧
          t.journal.records = s.journal.records ++
            [{ seq := s.journal.nextSeq, column := c, time := s.clock.reading,
               flags := { timeUnset := !s.clock.timeSet, late := g.late, interrupted := true,
                          provisional := g.service && g.provisional, residue := false,
                          fillAfterPresent := false },
               period := g.period,
               body :=
                 if g.service then
                   .serviceOpen g.card (min 65535 ((now - g.openStart.getD now) / 1000))
                 else .insertion g.card g.cls g.tariff g.fraction s.fills[c].estimate }] ∧
          t.journal.reservations = s.journal.reservations - 1 ∧
          t.table = s.table.useCount g.card ∧ t.reader = s.reader)) ∧
      (∀ e, s.round.entryOf c = some e → e.status = .active →
        t.round.state = s.round.state ∧ t.round.stage = none ∧ t.round.settleTimer = none ∧
        t.round.entryOf c = some
          { e with
            status := .done, outcome := some .failed, failReason := some .unauthorisedLift,
            fillAfter := none, residue := false })

/-- A lift under the permit moves the emptying on; its return within 5 s is a bounce, and later it
ends the lift, withdraws the permit and starts the settle timer; a hatch found open at the return is a forced
opening, which fails the entry if the return was a bounce (R8, R10, R11, R78, R121, R122, R125). The moment
of a taken change is the model's choice, log 2; that the engine chooses last is log 7. -/
def Obligations.PermittedLiftAndReturn : Prop :=
  ∀ (s : State) (c : Column), s.round.state = .open →
    s.sups[c].condition = .inService ∨ s.sups[c].condition = .outOfService →
    let p := s.sups[c]
    let now := match p.lift.hold with
      | none => s.now
      | some start => max s.now (start + 20)
    (p.lift.level = true → p.permit = true → s.round.inStage c .permitted = true →
      ∃ t, exec (.liftOut c) s = .next t ∧ t.now = now ∧
        t.sups = s.sups.set c
          { p with lift := { pin := false, level := false, hold := none }, hatchOpen := false } ∧
        t.round =
          { s.round with
            stage := some .lifted, liftStart := some now,
            supervision := .held (s.round.timeLeft now) } ∧
        PutBack c s t ∧ t.access = s.access ∧
        t.journal = s.journal ∧ t.alerts = s.alerts ∧ t.fills = s.fills ∧ t.table = s.table) ∧
    (∀ start, p.lift.level = false → p.hatch.level = true →
      s.round.inStage c .lifted = true → s.round.liftStart = some start →
      ∃ t, exec (.liftIn c) s = .next t ∧ t.now = now ∧ t.access = s.access ∧
        t.journal = s.journal ∧ t.alerts = s.alerts ∧ t.fills = s.fills ∧ t.table = s.table ∧
        (now - start < 5000 →
          t.sups = s.sups.set c
            { p with lift := { pin := true, level := true, hold := none }, hatchOpen := false } ∧
          t.round =
            { s.round with
              stage := some .permitted, liftStart := none,
              supervision := .counting (now + s.round.timeLeft now) }) ∧
        (5000 ≤ now - start →
          t.sups = s.sups.set c
            { p with
              lift := { pin := true, level := true, hold := none }, hatchOpen := false,
              permit := false } ∧
          t.round =
            { s.round with
              stage := some .settling, liftStart := none,
              settleTimer := some (now + s.profile.settleTime * 1000),
              supervision := .held (s.round.timeLeft now) })) ∧
    (∀ start e, p.lift.level = false → p.hatch.level = false → p.latch = .home → RoundLaw s →
      s.round.active = some e → e.column = c → s.round.stage = some .lifted →
      s.round.liftStart = some start → s.access[c].state = .locked →
      let reason := if p.condition = .inService then some .forcedHatch
        else some (settleReason .forcedHatch p.reason)
      ∃ t, exec (.liftIn c) s = .next t ∧ t.now = now ∧
        t.sups = s.sups.set c
          { p with
            lift := { pin := true, level := true, hold := none }, hatchOpen := true,
            permit := false, condition := .outOfService, reason := reason } ∧
        t.access = s.access.set c
          { s.access[c] with
            state := .open, context := none, rest := none,
            openTimer := some (now + s.profile.hatchOpenLimit * 1000) } ∧
        t.fills = s.fills ∧ t.table = s.table ∧ t.reader = s.reader ∧ t.host = s.host ∧
        (now - start < 5000 →
          t.round =
            { s.round with
              stage := none, settleTimer := none, liftStart := none,
              supervision := .counting (now + s.profile.keepTime * 1000),
              manifest := s.round.manifest.map fun x =>
                if x.column = c then
                  { x with
                    status := .done, outcome := some .failed, failReason := some .forcedHatch,
                    fillAfter := none, residue := false }
                else x } ∧
          t.journal.records = s.journal.records ++
            [{ seq := s.journal.nextSeq, column := c, time := s.clock.reading,
               flags := { timeUnset := !s.clock.timeSet, late := false, interrupted := false,
                          provisional := false, residue := false, fillAfterPresent := false },
               period := s.period,
               body := .emptying (s.round.id.getD 0) (s.round.vehicle.getD 0) .failed
                 (some .forcedHatch) (e.fillBefore.getD s.fills[c].estimate) none }] ∧
          t.journal.reservations = s.journal.reservations - 1 ∧
          (s.journal.records.length ≠ 1791 →
            t.alerts = s.alerts.raise .forcedHatch (some c) s.clock.reading)) ∧
        (5000 ≤ now - start →
          t.round =
            { s.round with
              stage := some .settling, liftStart := none,
              settleTimer := some (now + s.profile.settleTime * 1000),
              supervision := .held (s.round.timeLeft now) } ∧
          t.journal = s.journal ∧
          t.alerts = s.alerts.raise .forcedHatch (some c) s.clock.reading))

/-- The container of an ABSENT column returns: its condition follows its reason, it joins the forced
queue, from which a free engine may measure it at once, and an open hatch found then is a forced
opening; a DISABLED column's lift is only recorded (R4, R11, R78, R91, R92). The moment of a taken
change is the model's choice, log 2. -/
def Obligations.AbsentContainerReturns : Prop :=
  ∀ (s : State) (c : Column), s.chosen → s.sups[c].lift.level = false →
    let p := s.sups[c]
    let now := match p.lift.hold with
      | none => s.now
      | some start => max s.now (start + 20)
    (p.condition = .disabled →
      exec (.liftIn c) s = .next
        { s with
          now := now,
          sups := s.sups.set c
            { p with
              lift := { pin := true, level := true, hold := none },
              hatchOpen := !p.hatch.level } }) ∧
    (p.condition = .absent →
      ∃ t, exec (.liftIn c) s = .next t ∧ t.now = now ∧
        (s.ranging.burst.isSome = true → t.ranging.burst = s.ranging.burst →
          c ∈ t.ranging.queue) ∧
        (c ∈ t.ranging.queue ∨ ∃ b, t.ranging.burst = some b ∧ b.column = c) ∧
        t.fills = s.fills ∧ t.table = s.table ∧
        (p.hatch.level = true →
          t.sups = s.sups.set c
            { p with
              lift := { pin := true, level := true, hold := none }, hatchOpen := false,
              condition := if p.reason.isSome then .outOfService else .inService } ∧
          t.access = s.access ∧ t.round = s.round ∧ t.journal = s.journal ∧
          t.alerts = s.alerts) ∧
        (p.hatch.level = false → s.access[c].state = .locked ∨ s.access[c].state = .homing →
          t.sups[c].condition = .outOfService ∧ t.sups[c].hatchOpen = true ∧
          t.sups[c].reason = some (settleReason .forcedHatch p.reason) ∧
          t.access[c].state = .open ∧ t.access[c].context = none ∧
          t.access[c].openTimer = some (now + s.profile.hatchOpenLimit * 1000)))

/-! ### The latch (01 1.3) -/

/-- A latch at rest that leaves its position takes a LATCH FAULT and shows what its contacts show;
a stalled latch follows its contacts without a report; a DISABLED column's latch follows them
without judgement (R8, R9). The moment of a taken change is the model's choice, log 2. -/
def Obligations.LatchFollowsItsContacts : Prop :=
  ∀ (s : State) (c : Column) (k : Contact) (made : Bool),
    (s.sups[c].filter (.contact k)).level ≠ made →
    let held := s.sups[c].filter (.contact k)
    let now := match held.hold with
      | none => s.now
      | some start => max s.now (start + 20)
    let home := match k with
      | .home => made
      | .released => s.sups[c].homeContact.level
    let released := match k with
      | .home => s.sups[c].releasedContact.level
      | .released => made
    let p := match k with
      | .home => { s.sups[c] with homeContact := { pin := made, level := made, hold := none } }
      | .released =>
        { s.sups[c] with releasedContact := { pin := made, level := made, hold := none } }
    let shown : LatchState :=
      match home, released with
      | true, false => .home
      | false, true => .released
      | _, _ => .homing
    let quietly (q : Supervisor) : Prop :=
      ∃ t, exec (.latchContactChange c k made) s = .next t ∧ t.now = now ∧
        t.sups = s.sups.set c q ∧ t.access = s.access ∧ t.round = s.round ∧
        t.journal = s.journal ∧ t.alerts = s.alerts ∧ t.reader = s.reader
    let faulted (q : Supervisor) : Prop :=
      ∃ t, exec (.latchContactChange c k made) s = .next t ∧ t.now = now ∧
        t.sups = s.sups.set c
          { q with
            condition := if q.condition = .inService then .outOfService else q.condition,
            reason :=
              if q.condition = .inService then some .latchFault
              else some (settleReason .latchFault q.reason) } ∧
        t.access = s.access ∧ t.round = s.round ∧ t.journal = s.journal ∧
        t.alerts = s.alerts.raise .latchFault (some c) s.clock.reading ∧ t.reader = s.reader
    (p.condition = .disabled → quietly { p with latch := shown }) ∧
    (p.condition ≠ .disabled → p.drive = .off → s.access[c].drainMark = false →
      (p.latch = .home ∨ p.latch = .released →
        (shown = p.latch → quietly p) ∧ (shown ≠ p.latch → faulted { p with latch := shown })) ∧
      (p.latch = .releasing ∨ p.latch = .homing →
        (home = true → released = true → faulted p) ∧
        (home = false → released = false → quietly p) ∧
        (home ≠ released → quietly { p with latch := shown })))

/-- A travel ends at its position, at both contacts, whichever is made last, or at its timer, and the
access machine takes the report: RELEASED or HOME in OPEN, AWAIT OPEN or LOCKED changes nothing of it;
RELEASED opens the grant to its card, or with the cancel mark set cuts it with CANCELLED; HOME ends the
cycle and carries a drained column to its permit; a failure ends a release with FAULT and a homing in
LOCKED, where a drained column's permit is refused and its entry fails with LATCH (R7, R12, R69, R70,
R77, R80, R119, R120). The moments are the model's choice, log 2, and LOCKED comes last, log 8; that the
cancel mark is clear in LOCKED is log 12. -/
def Obligations.TravelEndsInReport : Prop :=
  ∀ (s : State) (c : Column), s.sups[c].condition ≠ .disabled →
    let due (held : Filter) := match held.hold with
      | none => s.now
      | some start => max s.now (start + 20)
    let a := s.access[c]
    let fault (q : Supervisor) : Supervisor :=
      { q with
        drive := .off, travel := none,
        condition := if q.condition = .inService then .outOfService else q.condition,
        reason :=
          if q.condition = .inService then some .latchFault
          else some (settleReason .latchFault q.reason) }
    let failed (run : Host.Outcome State Fault Refusal) (now : Nat) (q : Supervisor) : Prop :=
      ∃ t, run = .next t ∧ t.now = now ∧ t.sups = s.sups.set c (fault q) ∧
        t.alerts = s.alerts.raise .latchFault (some c) s.clock.reading ∧ t.round = s.round ∧
        t.fills = s.fills ∧
        (a.state = .homing →
          t.access = s.access.set c
            { a with state := .locked, context := none, cancelMark := false } ∧
          t.journal = s.journal ∧ t.table = s.table ∧ t.reader = s.reader) ∧
        (∀ g, a.state = .releasing → a.context = some g →
          t.access = s.access.set c
            { a with
              state := .locked, context := none, cancelMark := false, rest := some (now + 5000),
              denials := min 65535 (a.denials + 1) } ∧
          t.journal = { s.journal with reservations := s.journal.reservations - 1 } ∧
          t.table = (if g.service then s.table else s.table.refund g.card g.period s.period) ∧
          t.reader = (handVerdict ⟨c, .fault, none, none⟩ s).reader) ∧
        (a.state = .locked ∨ a.state = .awaitOpen ∨ a.state = .open →
          t.access = s.access ∧ t.journal = s.journal ∧ t.table = s.table ∧ t.reader = s.reader)
    let unmoved (run : Host.Outcome State Fault Refusal) (now : Nat) (q : Supervisor) : Prop :=
      ∃ t, run = .next t ∧ t.now = now ∧ t.sups = s.sups.set c q ∧ t.access = s.access ∧
        t.round = s.round ∧ t.journal = s.journal ∧ t.table = s.table ∧ t.fills = s.fills ∧
        t.alerts = s.alerts ∧ t.reader = s.reader ∧ t.host = s.host
    (∀ moment, s.sups[c].travel = some moment → a.drainMark = false →
      failed (exec (.latchTravelTimeout c) s) (max s.now moment) s.sups[c]) ∧
    (s.sups[c].drive ≠ .off → s.sups[c].releasedContact.level = true →
      s.sups[c].homeContact.level = false → a.drainMark = false →
      failed (exec (.latchContactChange c .home true) s) (due s.sups[c].homeContact)
        { s.sups[c] with homeContact := { pin := true, level := true, hold := none } }) ∧
    (s.sups[c].drive ≠ .off → s.sups[c].homeContact.level = true →
      s.sups[c].releasedContact.level = false → a.drainMark = false →
      failed (exec (.latchContactChange c .released true) s) (due s.sups[c].releasedContact)
        { s.sups[c] with releasedContact := { pin := true, level := true, hold := none } }) ∧
    (a.state = .open ∨ a.state = .awaitOpen ∨ a.state = .locked ∧ a.drainMark = false →
      s.sups[c].releasedContact.level = false → s.sups[c].homeContact.level = false →
      (s.sups[c].drive = .towardReleased → s.sups[c].latch = .releasing →
        unmoved (exec (.latchContactChange c .released true) s) (due s.sups[c].releasedContact)
          { s.sups[c] with
            releasedContact := { pin := true, level := true, hold := none },
            latch := .released, drive := .off, travel := none }) ∧
      (s.sups[c].drive = .towardHome → s.sups[c].latch = .homing →
        unmoved (exec (.latchContactChange c .home true) s) (due s.sups[c].homeContact)
          { s.sups[c] with
            homeContact := { pin := true, level := true, hold := none },
            latch := .home, drive := .off, travel := none })) ∧
    (∀ g, s.sups[c].drive = .towardReleased → s.sups[c].latch = .releasing →
      s.sups[c].releasedContact.level = false → s.sups[c].homeContact.level = false →
      a.state = .releasing → a.cancelMark = false → a.context = some g →
      ∃ t, exec (.latchContactChange c .released true) s = .next t ∧
        t.now = due s.sups[c].releasedContact ∧
        t.sups = s.sups.set c
          { s.sups[c] with
            releasedContact := { pin := true, level := true, hold := none },
            latch := .released, drive := .off, travel := none } ∧
        t.access = s.access.set c
          { a with
            state := .awaitOpen,
            grantTimer := some (due s.sups[c].releasedContact + s.profile.grantLimit * 1000) } ∧
        t.reader = (handVerdict ⟨c, if g.service then .serviceGrant else .grant,
          if g.service then none else g.remaining, none⟩ s).reader ∧
        t.journal = s.journal ∧ t.table = s.table ∧ t.alerts = s.alerts ∧ t.round = s.round) ∧
    (∀ g, s.sups[c].drive = .towardReleased → s.sups[c].latch = .releasing →
      s.sups[c].releasedContact.level = false → s.sups[c].homeContact.level = false →
      a.state = .releasing → a.cancelMark = true → a.context = some g →
      let now := due s.sups[c].releasedContact
      ∃ t, exec (.latchContactChange c .released true) s = .next t ∧ t.now = now ∧
        t.sups = s.sups.set c
          { s.sups[c] with
            releasedContact := { pin := true, level := true, hold := none },
            latch := .homing, drive := .towardHome,
            travel := some (now + s.profile.travelLimit) } ∧
        t.access = s.access.set c
          { a with
            state := .homing, grantTimer := none, openTimer := none,
            denials := min 65535 (a.denials + 1) } ∧
        t.reader = (handVerdict ⟨c, .cancelled, none, none⟩ s).reader ∧
        t.journal = { s.journal with reservations := s.journal.reservations - 1 } ∧
        t.table = (if g.service then s.table else s.table.refund g.card g.period s.period) ∧
        t.alerts = s.alerts ∧ t.round = s.round ∧ t.fills = s.fills) ∧
    (∀ moment e, s.sups[c].travel = some moment → s.sups[c].latch = .homing →
      a.state = .homing → a.drainMark = true → s.round.state = .open → RoundLaw s →
      s.round.active = some e → e.column = c → s.round.stage = some .draining →
      let now := max s.now moment
      ∃ t, exec (.latchTravelTimeout c) s = .next t ∧ t.now = now ∧
        t.sups = s.sups.set c (fault s.sups[c]) ∧
        t.access = s.access.set c
          { a with state := .locked, context := none, cancelMark := false, drainMark := false } ∧
        t.round =
          { s.round with
            stage := none, settleTimer := none, liftStart := none,
            supervision := .counting (now + s.profile.keepTime * 1000),
            manifest := s.round.manifest.map fun x =>
              if x.column = c then
                { x with
                  status := .done, outcome := some .failed, failReason := some .latch,
                  fillAfter := none, residue := false }
              else x } ∧
        t.journal.records = s.journal.records ++
          [{ seq := s.journal.nextSeq, column := c, time := s.clock.reading,
             flags := { timeUnset := !s.clock.timeSet, late := false, interrupted := false,
                        provisional := false, residue := false, fillAfterPresent := false },
             period := s.period,
             body := .emptying (s.round.id.getD 0) (s.round.vehicle.getD 0) .failed (some .latch)
               (e.fillBefore.getD s.fills[c].estimate) none }] ∧
        t.journal.reservations = s.journal.reservations - 1 ∧
        (s.alerts.entries = [] → s.journal.records.length ≠ 1791 →
          t.alerts.entries =
            [⟨.latchFault, some c, 2, s.clock.reading, s.clock.reading⟩]) ∧
        t.table = s.table ∧ t.reader = s.reader ∧ t.fills = s.fills) ∧
    (s.sups[c].drive = .towardHome → s.sups[c].latch = .homing →
      s.sups[c].releasedContact.level = false → s.sups[c].homeContact.level = false →
      a.state = .homing →
      ∃ t, exec (.latchContactChange c .home true) s = .next t ∧
        t.now = due s.sups[c].homeContact ∧
        t.access = s.access.set c
          { a with state := .locked, context := none, cancelMark := false, drainMark := false } ∧
        t.sups = s.sups.set c
          { s.sups[c] with
            homeContact := { pin := true, level := true, hold := none },
            latch := .home, drive := .off, travel := none,
            permit := s.sups[c].permit || (a.drainMark && s.round.inStage c .draining) } ∧
        t.round.stage =
          (if a.drainMark = true ∧ s.round.inStage c .draining = true then some .permitted
           else s.round.stage) ∧
        t.round.manifest = s.round.manifest ∧ t.journal = s.journal ∧ t.table = s.table ∧
        t.alerts = s.alerts ∧ t.reader = s.reader)

/-! ### Ranging and fill (05) -/

/-- Each ping is fired at its offset; its window takes the first echo at or past the blanking
distance, or NO ECHO at 4,000; echoes below it and outside a window are ignored; the pause's expiry
stops it, and a free engine begins the new cycle at column 0 at once, unless the forced queue offers a column
(R86, R87, R91, R95). The moments of the events are the model's choice, log 2 and 17, and that the engine
chooses at the end of the event log 7. -/
def Obligations.PingsFiredAndHeard : Prop :=
  ∀ s : State, s.chosen →
    (s.ranging.burst = none → ∀ n, exec (.echo n) s = .next s) ∧
    (s.ranging.burst = none → exec .ping s = .next s) ∧
    (∀ b, s.ranging.burst = some b →
      (b.window = none → ∀ n, exec (.echo n) s = .next s) ∧
      (b.window = none → b.results.length < 3 →
        let now := max s.now (b.start + 60 * (b.results.length + 1))
        exec .ping s = .next
          { s with
            now := now,
            ranging := { s.ranging with burst := some { b with window := some now } } }) ∧
      ∀ opened, b.window = some opened →
        (∀ n, n < b.blanking → n < 4000 →
          exec (.echo n) s = .next { s with now := max s.now (opened + 2 * n / 343) }) ∧
        (∀ n, b.blanking ≤ n → n < 4000 → b.results.length < 2 →
          exec (.echo n) s = .next
            { s with
              now := max s.now (opened + 2 * n / 343),
              ranging := { s.ranging with
                burst := some
                  { b with window := none, results := b.results ++ [.distance n] } } }) ∧
        (b.results.length < 2 →
          exec .noEcho s = .next
            { s with
              now := max s.now (opened + 2 * 4000 / 343),
              ranging := { s.ranging with
                burst := some { b with window := none, results := b.results ++ [.noEcho] } } })) ∧
    (∀ due, s.ranging.pause = some due →
      let now := max s.now due
      let stopped : State := { s with now := now, ranging := { s.ranging with pause := none } }
      (s.ranging.burst.isSome = true → exec .scanPauseExpiry s = .next stopped) ∧
      (s.ranging.burst = none →
        exec .scanPauseExpiry s = .next (chooseNext stopped) ∧
        (RangingLaw s → (∀ k ∈ s.ranging.queue, eligible s k = false) → eligible s 0 = true →
          s.ranging.heads[(0 : Column)].skip = 0 →
          ∃ t, exec .scanPauseExpiry s = .next t ∧ t.now = now ∧
            t.ranging.burst = some
              { column := 0, purpose := .scan, start := now, window := none, results := [],
                blanking := s.profile.blanking } ∧
            t.ranging.rsel = 0 ∧ t.ranging.pause = none ∧ t.ranging.pointer = 0 ∧
            t.ranging.queue = s.ranging.queue)))

/-- The close of ping 3's window hands the burst's result on: to the engine's own record, to the
tracker with its band's alert and OVERFILL, and for an EMPTYING burst to the round, whose entry is
EMPTIED (R88, R97, R99, R100, R102, R104, R124). The doubtful flag past a count of 3 is the model's
reading, log 23. -/
def Obligations.BurstResultHandedOn : Prop :=
  ∀ (s : State) (b : Burst) (opened : Nat) (last : PingResult), s.ranging.burst = some b →
    b.window = some opened → b.results.length = 2 →
    (last = .noEcho ∨ ∃ n, last = .distance n ∧ b.blanking ≤ n ∧ n < 4000) →
    let run := match last with
      | .noEcho => exec .noEcho s
      | .distance n => exec (.echo n) s
    let c := b.column
    let p := s.profile
    let result := formResult p.spreadTolerance (b.results ++ [last])
    let fails := min 255 (s.ranging.heads[c].failures + 1)
    let fillOf (mm : Nat) := convertFill p.columns[c].emptyDistance p.columns[c].fullDistance mm
    ∃ t, run = .next t ∧ t.sups = s.sups ∧ t.access = s.access ∧ t.table = s.table ∧
      (∀ k : Column, k ≠ c → t.fills[k] = s.fills[k]) ∧
      (∀ mm, result = .success mm →
        t.ranging.heads[c].failures = 0 ∧
        t.ranging.heads[c].last = some { mm := mm, time := s.clock.reading } ∧
        t.fills[c] =
          { estimate := fillOf mm, since := 0, doubtful := false,
            band := nextBand p.nearFull p.full s.fills[c].band (fillOf mm) } ∧
        (b.purpose ≠ .emptying ∨ s.journal.records.length ≠ 1791 →
          let old := s.fills[c].band
          let new := nextBand p.nearFull p.full old (fillOf mm)
          let banded :=
            if old = .normal ∧ new = .nearFull then
              s.alerts.raise .nearFull (some c) s.clock.reading
            else if old ≠ .full ∧ new = .full then
              s.alerts.raise .columnFull (some c) s.clock.reading
            else s.alerts
          t.alerts =
            if fillOf mm = 200 then banded.raise .overfill (some c) s.clock.reading
            else banded)) ∧
      ((∀ mm, result ≠ .success mm) →
        t.ranging.heads[c].failures = fails ∧
        t.ranging.heads[c].last = s.ranging.heads[c].last ∧
        (b.purpose ≠ .emptying →
          t.fills[c] =
            { s.fills[c] with doubtful := s.fills[c].doubtful || decide (3 ≤ fails) } ∧
          t.alerts =
            if fails = 3 then s.alerts.raise .rangingFault (some c) s.clock.reading
            else s.alerts) ∧
        (b.purpose = .emptying →
          t.fills[c] =
            { estimate := 0, since := 0,
              doubtful := s.fills[c].doubtful || decide (3 ≤ fails),
              band := nextBand p.nearFull p.full s.fills[c].band 0 })) ∧
      (b.purpose ≠ .emptying → t.round = s.round ∧ t.journal = s.journal) ∧
      (∀ e, b.purpose = .emptying → s.round.state = .open → s.round.entryOf c = some e →
        e.status = .active → s.round.stage = some .measuring →
        ∃ after residue,
          after = (match result with
            | .success mm => some (fillOf mm)
            | _ => none) ∧
          residue = (match result with
            | .success mm => decide (p.nearFull ≤ fillOf mm)
            | _ => false) ∧
          t.round.stage = none ∧ t.round.state = .open ∧
          t.round.entryOf c = some
            { e with
              status := .done, outcome := some .emptied, failReason := none,
              fillAfter := after, residue := residue } ∧
          t.journal.reservations = s.journal.reservations - 1 ∧
          t.journal.records = s.journal.records ++
            [{ seq := s.journal.nextSeq, column := c, time := s.clock.reading,
               flags := { timeUnset := !s.clock.timeSet, late := false, interrupted := false,
                          provisional := false, residue := residue,
                          fillAfterPresent := after.isSome },
               period := s.period,
               body := .emptying (s.round.id.getD 0) (s.round.vehicle.getD 0) .emptied none
                 (e.fillBefore.getD t.fills[c].estimate) after }])

/-- A free engine takes the first eligible column of the forced queue, else a scan step, which
measures the column at the pointer or passes it, unless the pause runs (R91, R94, R95). A
choice ends in a burst or in the pause, and one still due, as after a reset, is made before whatever command
is taken next (R107, R108). That the engine chooses once, at the end of an event, is the model's choice, log
7. A column is eligible in
condition IN SERVICE or OUT OF SERVICE, its container seated, its hatch closed, its machine LOCKED, and
not in a stage of its round but MEASURING (R90). -/
def Obligations.EngineChoosesNext : Prop :=
  (∀ s : State, s.ranging.burst = none →
     let r := s.ranging
     let start (c : Column) (p : Purpose) : Burst :=
       { column := c, purpose := p, start := s.now, window := none, results := [],
         blanking := s.profile.blanking }
     (∀ before c after, r.queue = before ++ c :: after → (∀ k ∈ before, eligible s k = false) →
       eligible s c = true →
       chooseNext s =
         { s with
           ranging := { r with
             burst := some
               (start c (if s.round.stageOf c = some .measuring then .emptying else .forced)),
             queue := before ++ after, rsel := c } }) ∧
     ((∀ k ∈ r.queue, eligible s k = false) →
       (r.pause.isSome = true → chooseNext s = s) ∧
       (r.pause = none → eligible s r.pointer = true → r.heads[r.pointer].skip = 0 →
         ∃ hs, chooseNext s =
           { s with
             ranging := { r with
               burst := some (start r.pointer .scan), rsel := r.pointer, heads := hs } } ∧
           hs[r.pointer] =
             { r.heads[r.pointer] with
               skip := s.profile.interval s.fills[r.pointer].band - 1 } ∧
           ∀ k : Column, k ≠ r.pointer → hs[k] = r.heads[k]) ∧
       (r.pause = none → eligible s r.pointer = false ∨ r.heads[r.pointer].skip ≠ 0 →
         ∃ hs : Vector Head 12,
           hs[r.pointer] =
             { r.heads[r.pointer] with
               skip := if eligible s r.pointer then r.heads[r.pointer].skip - 1
                 else r.heads[r.pointer].skip } ∧
           (∀ k : Column, k ≠ r.pointer → hs[k] = r.heads[k]) ∧
           (r.pointer = 11 →
             chooseNext s =
               { s with
                 ranging := { r with
                   pointer := 0, heads := hs,
                   pause := some (s.now + s.profile.scanPause * 1000) } }) ∧
           (r.pointer ≠ 11 →
             chooseNext s =
               chooseNext { s with ranging := { r with pointer := r.pointer + 1, heads := hs } })))) ∧
  (∀ (s : State) (c : Column), eligible s c = true ↔
    (s.sups[c].condition = .inService ∨ s.sups[c].condition = .outOfService) ∧
    s.sups[c].lift.level = true ∧ s.sups[c].hatchOpen = false ∧ s.access[c].state = .locked ∧
    ((∀ e ∈ s.round.manifest, e.column = c → e.status ≠ .active) ∨ s.round.stage = none ∨
      s.round.stage = some .measuring)) ∧
  (∀ s : State, (chooseNext s).chosen ∧
    (¬s.chosen → ∀ c : Instr, c ≠ .fullReset → exec c s = exec c (chooseNext s)))

/-- The result formed from three slots, by the number of valid pings and their spread (R88), and the
fill a distance converts to (R98). A band recomputed follows the table of R103 for any N below U,
raises the alert of its change by R104, and touches nothing else. -/
def Obligations.MeasurementConvertedAndBanded : Prop :=
  ((∀ tol a b c : Nat, max a (max b c) - min a (min b c) ≤ tol →
    ∃ m, formResult tol [.distance a, .distance b, .distance c] = .success m ∧
      (m = a ∨ m = b ∨ m = c) ∧
      2 ≤ ([a, b, c].filter fun x => decide (x ≤ m)).length ∧
      2 ≤ ([a, b, c].filter fun x => decide (m ≤ x)).length) ∧
  (∀ tol a b c : Nat, tol < max a (max b c) - min a (min b c) →
    formResult tol [.distance a, .distance b, .distance c] = .unstable) ∧
  (∀ tol a b : Nat, ∀ l ∈ [[PingResult.noEcho, .distance a, .distance b],
      [.distance a, .noEcho, .distance b], [.distance a, .distance b, .noEcho]],
    formResult tol l =
      if max a b - min a b ≤ tol then .success (min a b) else .unstable) ∧
  (∀ tol a : Nat, ∀ l ∈ [[PingResult.noEcho, .noEcho, .noEcho], [.distance a, .noEcho, .noEcho],
      [.noEcho, .distance a, .noEcho], [.noEcho, .noEcho, .distance a]],
    formResult tol l = .noEcho) ∧
  (∀ e f d : Nat, f < e →
    (e ≤ d → convertFill e f d = 0) ∧ (d ≤ f → convertFill e f d = 200) ∧
    (f < d → d < e → convertFill e f d = 200 * (e - d) / (e - f)) ∧ convertFill e f d ≤ 200)) ∧
  (∀ (s : State) (c : Column), s.profile.nearFull < s.profile.full →
    let n := s.profile.nearFull
    let u := s.profile.full
    let est := s.fills[c].estimate
    let old := s.fills[c].band
    ∃ new, recomputeBand c s =
        { s with
          fills := s.fills.set c { s.fills[c] with band := new },
          alerts :=
            if old = .normal ∧ new = .nearFull then
              s.alerts.raise .nearFull (some c) s.clock.reading
            else if old ≠ .full ∧ new = .full then
              s.alerts.raise .columnFull (some c) s.clock.reading
            else s.alerts } ∧
      (old = .full → n ≤ est → new = .full) ∧
      (old = .full → est < n → new = .normal) ∧
      (old ≠ .full → u ≤ est → new = .full) ∧
      (old ≠ .full → n ≤ est → est < u → new = .nearFull) ∧
      (old ≠ .full → est < n → new = .normal))

/-! ### Laws that every step keeps -/

/-- Every step keeps the laws of the alert list (R150), of the forced queue and the estimates (R92,
R98), of the scan's pointer, pause and bursts (R94, R95), and of the journal's order (R135, R144). -/
def Obligations.StepKeepsListLaws : Prop :=
  ∀ s t : State, step s = .next t →
    (AlertLaw s → AlertLaw t) ∧ (RangingLaw s → RangingLaw t) ∧
      (JournalOrderLaw s → JournalOrderLaw t)

/-- Every step keeps the laws of the card table (R19, R28, R41, R54). -/
def Obligations.StepKeepsTableLaw : Prop :=
  ∀ s t : State, step s = .next t → TableLaw s → TableLaw t

/-- Every command but a TABLE RELEASE or a full reset keeps the pins and what they pin, and so does every
step that takes neither of the two: not from the front of the queue, and not, on an empty queue, as the
frame that the byte heard completes (R37, R38). What a step takes on an empty queue is the model's choice,
log 1 and 4. -/
def Obligations.StepKeepsPinnedBlocks : Prop :=
  (∀ (c : Instr) (s t : State), exec c s = .next t → c ≠ .fullReset →
    (∀ body, c ≠ .tableRelease body) → PinnedKept s t) ∧
  (∀ s t : State, step s = .next t →
    (∀ c rest, s.pending = c :: rest → c ≠ .fullReset ∧ ∀ body, c ≠ .tableRelease body) →
    (s.pending = [] → ∀ line h rest, s.arriving = (line, h) :: rest →
      ∀ body, (hear line (s.receiver line) h).2 ≠ some (.tableRelease body)) →
    PinnedKept s t)

/-- Every step keeps the manifest's law and the journal's count of reservations and room (R111, R139). -/
def Obligations.StepKeepsJournalLaw : Prop :=
  ∀ s t : State, step s = .next t → JournalLaw s → JournalLaw t

/-- Every step keeps the laws of the lift permit (R12). -/
def Obligations.StepKeepsPermitLaw : Prop :=
  ∀ s t : State, step s = .next t → PermitLaw s → PermitLaw t

/-- Every step keeps the table of latch states and drives (01 1.3). -/
def Obligations.StepKeepsLatchLaw : Prop :=
  ∀ s t : State, step s = .next t → LatchLaw s → LatchLaw t

/-- Every step keeps the profile within its ranges and relations (R170). -/
def Obligations.StepKeepsProfileLaw : Prop :=
  ∀ s t : State, step s = .next t → ProfileLaw s → ProfileLaw t

/-- The laws hold after a full reset. They rest on the pins that the model chose, log 6. -/
def Obligations.LawsHoldAtReset : Prop :=
  AlertLaw State.reset ∧ RangingLaw State.reset ∧ TableLaw State.reset ∧
    JournalOrderLaw State.reset ∧ JournalLaw State.reset ∧ PermitLaw State.reset ∧
    LatchLaw State.reset ∧ ProfileLaw State.reset
end

