-- ==== Sys2Proof/Laws/State.lean ====
section
/-! SUPPORT. State: what each named update leaves of every field, true by rfl. -/

namespace Sys2Proof.Machine

open Sys2Proof

variable (s : State) (c : Column)

@[simp] theorem State.modSup_now (f : Supervisor → Supervisor) : (s.modSup c f).now = s.now := rfl
@[simp] theorem State.modSup_clock (f : Supervisor → Supervisor) : (s.modSup c f).clock = s.clock := rfl
@[simp] theorem State.modSup_period (f : Supervisor → Supervisor) : (s.modSup c f).period = s.period := rfl
@[simp] theorem State.modSup_profile (f : Supervisor → Supervisor) : (s.modSup c f).profile = s.profile := rfl
@[simp] theorem State.modSup_access (f : Supervisor → Supervisor) : (s.modSup c f).access = s.access := rfl
@[simp] theorem State.modSup_ranging (f : Supervisor → Supervisor) : (s.modSup c f).ranging = s.ranging := rfl
@[simp] theorem State.modSup_fills (f : Supervisor → Supervisor) : (s.modSup c f).fills = s.fills := rfl
@[simp] theorem State.modSup_table (f : Supervisor → Supervisor) : (s.modSup c f).table = s.table := rfl
@[simp] theorem State.modSup_round (f : Supervisor → Supervisor) : (s.modSup c f).round = s.round := rfl
@[simp] theorem State.modSup_journal (f : Supervisor → Supervisor) : (s.modSup c f).journal = s.journal := rfl
@[simp] theorem State.modSup_alerts (f : Supervisor → Supervisor) : (s.modSup c f).alerts = s.alerts := rfl
@[simp] theorem State.modSup_host (f : Supervisor → Supervisor) : (s.modSup c f).host = s.host := rfl
@[simp] theorem State.modSup_reader (f : Supervisor → Supervisor) : (s.modSup c f).reader = s.reader := rfl
@[simp] theorem State.modSup_restarted (f : Supervisor → Supervisor) : (s.modSup c f).restarted = s.restarted := rfl
@[simp] theorem State.modSup_arriving (f : Supervisor → Supervisor) : (s.modSup c f).arriving = s.arriving := rfl
@[simp] theorem State.modSup_draws (f : Supervisor → Supervisor) : (s.modSup c f).draws = s.draws := rfl
@[simp] theorem State.modSup_pending (f : Supervisor → Supervisor) : (s.modSup c f).pending = s.pending := rfl

@[simp] theorem State.modAccess_now (f : Access → Access) : (s.modAccess c f).now = s.now := rfl
@[simp] theorem State.modAccess_clock (f : Access → Access) : (s.modAccess c f).clock = s.clock := rfl
@[simp] theorem State.modAccess_period (f : Access → Access) : (s.modAccess c f).period = s.period := rfl
@[simp] theorem State.modAccess_profile (f : Access → Access) : (s.modAccess c f).profile = s.profile := rfl
@[simp] theorem State.modAccess_sups (f : Access → Access) : (s.modAccess c f).sups = s.sups := rfl
@[simp] theorem State.modAccess_ranging (f : Access → Access) : (s.modAccess c f).ranging = s.ranging := rfl
@[simp] theorem State.modAccess_fills (f : Access → Access) : (s.modAccess c f).fills = s.fills := rfl
@[simp] theorem State.modAccess_table (f : Access → Access) : (s.modAccess c f).table = s.table := rfl
@[simp] theorem State.modAccess_round (f : Access → Access) : (s.modAccess c f).round = s.round := rfl
@[simp] theorem State.modAccess_journal (f : Access → Access) : (s.modAccess c f).journal = s.journal := rfl
@[simp] theorem State.modAccess_alerts (f : Access → Access) : (s.modAccess c f).alerts = s.alerts := rfl
@[simp] theorem State.modAccess_host (f : Access → Access) : (s.modAccess c f).host = s.host := rfl
@[simp] theorem State.modAccess_reader (f : Access → Access) : (s.modAccess c f).reader = s.reader := rfl
@[simp] theorem State.modAccess_restarted (f : Access → Access) : (s.modAccess c f).restarted = s.restarted := rfl
@[simp] theorem State.modAccess_arriving (f : Access → Access) : (s.modAccess c f).arriving = s.arriving := rfl
@[simp] theorem State.modAccess_draws (f : Access → Access) : (s.modAccess c f).draws = s.draws := rfl
@[simp] theorem State.modAccess_pending (f : Access → Access) : (s.modAccess c f).pending = s.pending := rfl

@[simp] theorem State.modFill_now (f : Fill → Fill) : (s.modFill c f).now = s.now := rfl
@[simp] theorem State.modFill_clock (f : Fill → Fill) : (s.modFill c f).clock = s.clock := rfl
@[simp] theorem State.modFill_period (f : Fill → Fill) : (s.modFill c f).period = s.period := rfl
@[simp] theorem State.modFill_profile (f : Fill → Fill) : (s.modFill c f).profile = s.profile := rfl
@[simp] theorem State.modFill_sups (f : Fill → Fill) : (s.modFill c f).sups = s.sups := rfl
@[simp] theorem State.modFill_access (f : Fill → Fill) : (s.modFill c f).access = s.access := rfl
@[simp] theorem State.modFill_ranging (f : Fill → Fill) : (s.modFill c f).ranging = s.ranging := rfl
@[simp] theorem State.modFill_table (f : Fill → Fill) : (s.modFill c f).table = s.table := rfl
@[simp] theorem State.modFill_round (f : Fill → Fill) : (s.modFill c f).round = s.round := rfl
@[simp] theorem State.modFill_journal (f : Fill → Fill) : (s.modFill c f).journal = s.journal := rfl
@[simp] theorem State.modFill_alerts (f : Fill → Fill) : (s.modFill c f).alerts = s.alerts := rfl
@[simp] theorem State.modFill_host (f : Fill → Fill) : (s.modFill c f).host = s.host := rfl
@[simp] theorem State.modFill_reader (f : Fill → Fill) : (s.modFill c f).reader = s.reader := rfl
@[simp] theorem State.modFill_restarted (f : Fill → Fill) : (s.modFill c f).restarted = s.restarted := rfl
@[simp] theorem State.modFill_arriving (f : Fill → Fill) : (s.modFill c f).arriving = s.arriving := rfl
@[simp] theorem State.modFill_draws (f : Fill → Fill) : (s.modFill c f).draws = s.draws := rfl
@[simp] theorem State.modFill_pending (f : Fill → Fill) : (s.modFill c f).pending = s.pending := rfl

@[simp] theorem State.modHead_now (f : Head → Head) : (s.modHead c f).now = s.now := rfl
@[simp] theorem State.modHead_clock (f : Head → Head) : (s.modHead c f).clock = s.clock := rfl
@[simp] theorem State.modHead_period (f : Head → Head) : (s.modHead c f).period = s.period := rfl
@[simp] theorem State.modHead_profile (f : Head → Head) : (s.modHead c f).profile = s.profile := rfl
@[simp] theorem State.modHead_sups (f : Head → Head) : (s.modHead c f).sups = s.sups := rfl
@[simp] theorem State.modHead_access (f : Head → Head) : (s.modHead c f).access = s.access := rfl
@[simp] theorem State.modHead_fills (f : Head → Head) : (s.modHead c f).fills = s.fills := rfl
@[simp] theorem State.modHead_table (f : Head → Head) : (s.modHead c f).table = s.table := rfl
@[simp] theorem State.modHead_round (f : Head → Head) : (s.modHead c f).round = s.round := rfl
@[simp] theorem State.modHead_journal (f : Head → Head) : (s.modHead c f).journal = s.journal := rfl
@[simp] theorem State.modHead_alerts (f : Head → Head) : (s.modHead c f).alerts = s.alerts := rfl
@[simp] theorem State.modHead_host (f : Head → Head) : (s.modHead c f).host = s.host := rfl
@[simp] theorem State.modHead_reader (f : Head → Head) : (s.modHead c f).reader = s.reader := rfl
@[simp] theorem State.modHead_restarted (f : Head → Head) : (s.modHead c f).restarted = s.restarted := rfl
@[simp] theorem State.modHead_arriving (f : Head → Head) : (s.modHead c f).arriving = s.arriving := rfl
@[simp] theorem State.modHead_draws (f : Head → Head) : (s.modHead c f).draws = s.draws := rfl
@[simp] theorem State.modHead_pending (f : Head → Head) : (s.modHead c f).pending = s.pending := rfl

@[simp] theorem State.reach_clock (t : Nat) : (reach t s).clock = s.clock := rfl
@[simp] theorem State.reach_period (t : Nat) : (reach t s).period = s.period := rfl
@[simp] theorem State.reach_profile (t : Nat) : (reach t s).profile = s.profile := rfl
@[simp] theorem State.reach_sups (t : Nat) : (reach t s).sups = s.sups := rfl
@[simp] theorem State.reach_access (t : Nat) : (reach t s).access = s.access := rfl
@[simp] theorem State.reach_ranging (t : Nat) : (reach t s).ranging = s.ranging := rfl
@[simp] theorem State.reach_fills (t : Nat) : (reach t s).fills = s.fills := rfl
@[simp] theorem State.reach_table (t : Nat) : (reach t s).table = s.table := rfl
@[simp] theorem State.reach_round (t : Nat) : (reach t s).round = s.round := rfl
@[simp] theorem State.reach_journal (t : Nat) : (reach t s).journal = s.journal := rfl
@[simp] theorem State.reach_alerts (t : Nat) : (reach t s).alerts = s.alerts := rfl
@[simp] theorem State.reach_host (t : Nat) : (reach t s).host = s.host := rfl
@[simp] theorem State.reach_reader (t : Nat) : (reach t s).reader = s.reader := rfl
@[simp] theorem State.reach_restarted (t : Nat) : (reach t s).restarted = s.restarted := rfl
@[simp] theorem State.reach_arriving (t : Nat) : (reach t s).arriving = s.arriving := rfl
@[simp] theorem State.reach_draws (t : Nat) : (reach t s).draws = s.draws := rfl
@[simp] theorem State.reach_pending (t : Nat) : (reach t s).pending = s.pending := rfl

@[simp] theorem State.reach_now (t : Nat) : (reach t s).now = max s.now t := rfl

@[simp] theorem State.modSup_self (f : Supervisor → Supervisor) : (s.modSup c f).sups[c.val] = f s.sups[c.val] := by
  simp [State.modSup]

/-- The other columns keep their record. -/
theorem State.modSup_other (f : Supervisor → Supervisor) {k : Column} (h : k ≠ c) :
    (s.modSup c f).sups[k.val] = s.sups[k.val] := by
  have h' : c.val ≠ k.val := fun e => h (Fin.ext e.symm)
  simp [State.modSup, h']

@[simp] theorem State.modAccess_self (f : Access → Access) : (s.modAccess c f).access[c.val] = f s.access[c.val] := by
  simp [State.modAccess]

/-- The other columns keep their record. -/
theorem State.modAccess_other (f : Access → Access) {k : Column} (h : k ≠ c) :
    (s.modAccess c f).access[k.val] = s.access[k.val] := by
  have h' : c.val ≠ k.val := fun e => h (Fin.ext e.symm)
  simp [State.modAccess, h']

@[simp] theorem State.modFill_self (f : Fill → Fill) : (s.modFill c f).fills[c.val] = f s.fills[c.val] := by
  simp [State.modFill]

/-- The other columns keep their record. -/
theorem State.modFill_other (f : Fill → Fill) {k : Column} (h : k ≠ c) :
    (s.modFill c f).fills[k.val] = s.fills[k.val] := by
  have h' : c.val ≠ k.val := fun e => h (Fin.ext e.symm)
  simp [State.modFill, h']

@[simp] theorem Ranging.modHead_self (r : Ranging) (f : Head → Head) :
    (r.modHead c f).heads[c.val] = f r.heads[c.val] := by
  simp [Ranging.modHead]

/-- The other columns keep their head. -/
theorem Ranging.modHead_other (r : Ranging) (f : Head → Head) {k : Column} (h : k ≠ c) :
    (r.modHead c f).heads[k.val] = r.heads[k.val] := by
  have h' : c.val ≠ k.val := fun e => h (Fin.ext e.symm)
  simp [Ranging.modHead, h']

end Sys2Proof.Machine
end

