-- ==== Sys2Proof/Laws/Frames.lean ====
section
/-! SUPPORT. Frames: for each shared operation, the fields of the state it does not touch. -/

namespace Sys2Proof.Machine

open Sys2Proof

variable (s : State)

@[simp] theorem raiseAlert_frame (k : AlertKind) (o : Option Column) :
    (raiseAlert k o s).now = s.now ∧ (raiseAlert k o s).clock = s.clock ∧ (raiseAlert k o
    s).period = s.period ∧ (raiseAlert k o s).profile = s.profile ∧ (raiseAlert k o s).sups =
    s.sups ∧ (raiseAlert k o s).access = s.access ∧ (raiseAlert k o s).ranging = s.ranging ∧
    (raiseAlert k o s).fills = s.fills ∧ (raiseAlert k o s).table = s.table ∧ (raiseAlert k o
    s).round = s.round ∧ (raiseAlert k o s).journal = s.journal ∧ (raiseAlert k o s).host = s.host
    ∧ (raiseAlert k o s).reader = s.reader ∧ (raiseAlert k o s).restarted = s.restarted ∧
    (raiseAlert k o s).arriving = s.arriving ∧ (raiseAlert k o s).draws = s.draws ∧ (raiseAlert k
    o s).pending = s.pending := by
  simp [raiseAlert]

@[simp] theorem raiseIf_frame (k : Option AlertKind) (o : Option Column) :
    (raiseIf k o s).now = s.now ∧ (raiseIf k o s).clock = s.clock ∧ (raiseIf k o s).period =
    s.period ∧ (raiseIf k o s).profile = s.profile ∧ (raiseIf k o s).sups = s.sups ∧ (raiseIf k o
    s).access = s.access ∧ (raiseIf k o s).ranging = s.ranging ∧ (raiseIf k o s).fills = s.fills ∧
    (raiseIf k o s).table = s.table ∧ (raiseIf k o s).round = s.round ∧ (raiseIf k o s).journal =
    s.journal ∧ (raiseIf k o s).host = s.host ∧ (raiseIf k o s).reader = s.reader ∧ (raiseIf k o
    s).restarted = s.restarted ∧ (raiseIf k o s).arriving = s.arriving ∧ (raiseIf k o s).draws =
    s.draws ∧ (raiseIf k o s).pending = s.pending := by
  simp only [raiseIf]; repeat' split
  all_goals simp

@[simp] theorem reserve_frame (n : Nat) :
    (reserve n s).now = s.now ∧ (reserve n s).clock = s.clock ∧ (reserve n s).period = s.period ∧
    (reserve n s).profile = s.profile ∧ (reserve n s).sups = s.sups ∧ (reserve n s).access =
    s.access ∧ (reserve n s).ranging = s.ranging ∧ (reserve n s).fills = s.fills ∧ (reserve n
    s).table = s.table ∧ (reserve n s).round = s.round ∧ (reserve n s).alerts = s.alerts ∧
    (reserve n s).host = s.host ∧ (reserve n s).reader = s.reader ∧ (reserve n s).restarted =
    s.restarted ∧ (reserve n s).arriving = s.arriving ∧ (reserve n s).draws = s.draws ∧ (reserve n
    s).pending = s.pending := by
  simp [reserve]

@[simp] theorem releaseReservation_frame :
    (releaseReservation s).now = s.now ∧ (releaseReservation s).clock = s.clock ∧
    (releaseReservation s).period = s.period ∧ (releaseReservation s).profile = s.profile ∧
    (releaseReservation s).sups = s.sups ∧ (releaseReservation s).access = s.access ∧
    (releaseReservation s).ranging = s.ranging ∧ (releaseReservation s).fills = s.fills ∧
    (releaseReservation s).table = s.table ∧ (releaseReservation s).round = s.round ∧
    (releaseReservation s).alerts = s.alerts ∧ (releaseReservation s).host = s.host ∧
    (releaseReservation s).reader = s.reader ∧ (releaseReservation s).restarted = s.restarted ∧
    (releaseReservation s).arriving = s.arriving ∧ (releaseReservation s).draws = s.draws ∧
    (releaseReservation s).pending = s.pending := by
  simp [releaseReservation]

@[simp] theorem appendRecord_frame (c : Column) (fl : RecordFlags) (p : BitVec 16) (b : RecordBody) :
    (appendRecord c fl p b s).now = s.now ∧ (appendRecord c fl p b s).clock = s.clock ∧
    (appendRecord c fl p b s).period = s.period ∧ (appendRecord c fl p b s).profile = s.profile ∧
    (appendRecord c fl p b s).sups = s.sups ∧ (appendRecord c fl p b s).access = s.access ∧
    (appendRecord c fl p b s).ranging = s.ranging ∧ (appendRecord c fl p b s).fills = s.fills ∧
    (appendRecord c fl p b s).table = s.table ∧ (appendRecord c fl p b s).round = s.round ∧
    (appendRecord c fl p b s).host = s.host ∧ (appendRecord c fl p b s).reader = s.reader ∧
    (appendRecord c fl p b s).restarted = s.restarted ∧ (appendRecord c fl p b s).arriving =
    s.arriving ∧ (appendRecord c fl p b s).draws = s.draws ∧ (appendRecord c fl p b s).pending =
    s.pending := by
  simp only [appendRecord]; repeat' split
  all_goals simp

@[simp] theorem countLinkError_frame :
    (countLinkError s).now = s.now ∧ (countLinkError s).clock = s.clock ∧ (countLinkError
    s).period = s.period ∧ (countLinkError s).profile = s.profile ∧ (countLinkError s).sups =
    s.sups ∧ (countLinkError s).access = s.access ∧ (countLinkError s).ranging = s.ranging ∧
    (countLinkError s).fills = s.fills ∧ (countLinkError s).table = s.table ∧ (countLinkError
    s).round = s.round ∧ (countLinkError s).journal = s.journal ∧ (countLinkError s).alerts =
    s.alerts ∧ (countLinkError s).reader = s.reader ∧ (countLinkError s).restarted = s.restarted ∧
    (countLinkError s).arriving = s.arriving ∧ (countLinkError s).draws = s.draws ∧
    (countLinkError s).pending = s.pending := by
  simp [countLinkError]

@[simp] theorem hostFrameEnds_frame :
    (hostFrameEnds s).now = s.now ∧ (hostFrameEnds s).clock = s.clock ∧ (hostFrameEnds s).period =
    s.period ∧ (hostFrameEnds s).profile = s.profile ∧ (hostFrameEnds s).sups = s.sups ∧
    (hostFrameEnds s).access = s.access ∧ (hostFrameEnds s).ranging = s.ranging ∧ (hostFrameEnds
    s).fills = s.fills ∧ (hostFrameEnds s).table = s.table ∧ (hostFrameEnds s).round = s.round ∧
    (hostFrameEnds s).journal = s.journal ∧ (hostFrameEnds s).alerts = s.alerts ∧ (hostFrameEnds
    s).reader = s.reader ∧ (hostFrameEnds s).restarted = s.restarted ∧ (hostFrameEnds s).arriving
    = s.arriving ∧ (hostFrameEnds s).draws = s.draws ∧ (hostFrameEnds s).pending = s.pending := by
  simp [hostFrameEnds]

@[simp] theorem putInHand_frame (k : Byte) (b : List Byte) :
    (putInHand k b s).now = s.now ∧ (putInHand k b s).clock = s.clock ∧ (putInHand k b s).period =
    s.period ∧ (putInHand k b s).profile = s.profile ∧ (putInHand k b s).sups = s.sups ∧
    (putInHand k b s).access = s.access ∧ (putInHand k b s).ranging = s.ranging ∧ (putInHand k b
    s).fills = s.fills ∧ (putInHand k b s).table = s.table ∧ (putInHand k b s).round = s.round ∧
    (putInHand k b s).journal = s.journal ∧ (putInHand k b s).alerts = s.alerts ∧ (putInHand k b
    s).reader = s.reader ∧ (putInHand k b s).restarted = s.restarted ∧ (putInHand k b s).arriving
    = s.arriving ∧ (putInHand k b s).draws = s.draws ∧ (putInHand k b s).pending = s.pending := by
  simp [putInHand]

@[simp] theorem startVerdict_frame :
    (startVerdict s).now = s.now ∧ (startVerdict s).clock = s.clock ∧ (startVerdict s).period =
    s.period ∧ (startVerdict s).profile = s.profile ∧ (startVerdict s).sups = s.sups ∧
    (startVerdict s).access = s.access ∧ (startVerdict s).ranging = s.ranging ∧ (startVerdict
    s).fills = s.fills ∧ (startVerdict s).table = s.table ∧ (startVerdict s).round = s.round ∧
    (startVerdict s).journal = s.journal ∧ (startVerdict s).alerts = s.alerts ∧ (startVerdict
    s).host = s.host ∧ (startVerdict s).restarted = s.restarted ∧ (startVerdict s).arriving =
    s.arriving ∧ (startVerdict s).draws = s.draws ∧ (startVerdict s).pending = s.pending := by
  simp only [startVerdict]; repeat' split
  all_goals simp

@[simp] theorem handVerdict_frame (v : Verdict) :
    (handVerdict v s).now = s.now ∧ (handVerdict v s).clock = s.clock ∧ (handVerdict v s).period =
    s.period ∧ (handVerdict v s).profile = s.profile ∧ (handVerdict v s).sups = s.sups ∧
    (handVerdict v s).access = s.access ∧ (handVerdict v s).ranging = s.ranging ∧ (handVerdict v
    s).fills = s.fills ∧ (handVerdict v s).table = s.table ∧ (handVerdict v s).round = s.round ∧
    (handVerdict v s).journal = s.journal ∧ (handVerdict v s).alerts = s.alerts ∧ (handVerdict v
    s).host = s.host ∧ (handVerdict v s).restarted = s.restarted ∧ (handVerdict v s).arriving =
    s.arriving ∧ (handVerdict v s).draws = s.draws ∧ (handVerdict v s).pending = s.pending := by
  simp only [handVerdict]; repeat' split
  all_goals simp

@[simp] theorem readerFrameEnds_frame :
    (readerFrameEnds s).now = s.now ∧ (readerFrameEnds s).clock = s.clock ∧ (readerFrameEnds
    s).period = s.period ∧ (readerFrameEnds s).profile = s.profile ∧ (readerFrameEnds s).sups =
    s.sups ∧ (readerFrameEnds s).access = s.access ∧ (readerFrameEnds s).ranging = s.ranging ∧
    (readerFrameEnds s).fills = s.fills ∧ (readerFrameEnds s).table = s.table ∧ (readerFrameEnds
    s).round = s.round ∧ (readerFrameEnds s).journal = s.journal ∧ (readerFrameEnds s).alerts =
    s.alerts ∧ (readerFrameEnds s).host = s.host ∧ (readerFrameEnds s).restarted = s.restarted ∧
    (readerFrameEnds s).arriving = s.arriving ∧ (readerFrameEnds s).draws = s.draws ∧
    (readerFrameEnds s).pending = s.pending := by
  simp [readerFrameEnds]

@[simp] theorem sendVerdict_frame (c : Column) (v : VerdictCode) (m : Option Nat) (r : Option Column) :
    (sendVerdict c v m r s).now = s.now ∧ (sendVerdict c v m r s).clock = s.clock ∧ (sendVerdict c
    v m r s).period = s.period ∧ (sendVerdict c v m r s).profile = s.profile ∧ (sendVerdict c v m
    r s).sups = s.sups ∧ (sendVerdict c v m r s).ranging = s.ranging ∧ (sendVerdict c v m r
    s).fills = s.fills ∧ (sendVerdict c v m r s).table = s.table ∧ (sendVerdict c v m r s).round =
    s.round ∧ (sendVerdict c v m r s).journal = s.journal ∧ (sendVerdict c v m r s).alerts =
    s.alerts ∧ (sendVerdict c v m r s).host = s.host ∧ (sendVerdict c v m r s).restarted =
    s.restarted ∧ (sendVerdict c v m r s).arriving = s.arriving ∧ (sendVerdict c v m r s).draws =
    s.draws ∧ (sendVerdict c v m r s).pending = s.pending := by
  simp only [sendVerdict]; repeat' split
  all_goals simp

@[simp] theorem closeTransfer_frame :
    (closeTransfer s).now = s.now ∧ (closeTransfer s).clock = s.clock ∧ (closeTransfer s).period =
    s.period ∧ (closeTransfer s).profile = s.profile ∧ (closeTransfer s).sups = s.sups ∧
    (closeTransfer s).access = s.access ∧ (closeTransfer s).ranging = s.ranging ∧ (closeTransfer
    s).fills = s.fills ∧ (closeTransfer s).round = s.round ∧ (closeTransfer s).journal = s.journal
    ∧ (closeTransfer s).alerts = s.alerts ∧ (closeTransfer s).reader = s.reader ∧ (closeTransfer
    s).restarted = s.restarted ∧ (closeTransfer s).arriving = s.arriving ∧ (closeTransfer s).draws
    = s.draws ∧ (closeTransfer s).pending = s.pending := by
  simp [closeTransfer]

@[simp] theorem takeFault_frame (c : Column) (r : Reason) :
    (takeFault c r s).now = s.now ∧ (takeFault c r s).clock = s.clock ∧ (takeFault c r s).period =
    s.period ∧ (takeFault c r s).profile = s.profile ∧ (takeFault c r s).access = s.access ∧
    (takeFault c r s).ranging = s.ranging ∧ (takeFault c r s).fills = s.fills ∧ (takeFault c r
    s).table = s.table ∧ (takeFault c r s).round = s.round ∧ (takeFault c r s).journal = s.journal
    ∧ (takeFault c r s).host = s.host ∧ (takeFault c r s).reader = s.reader ∧ (takeFault c r
    s).restarted = s.restarted ∧ (takeFault c r s).arriving = s.arriving ∧ (takeFault c r s).draws
    = s.draws ∧ (takeFault c r s).pending = s.pending := by
  simp only [takeFault]; repeat' split
  all_goals simp

@[simp] theorem startTravel_frame (c : Column) (l : LatchState) (d : Drive) :
    (startTravel c l d s).now = s.now ∧ (startTravel c l d s).clock = s.clock ∧ (startTravel c l d
    s).period = s.period ∧ (startTravel c l d s).profile = s.profile ∧ (startTravel c l d
    s).access = s.access ∧ (startTravel c l d s).ranging = s.ranging ∧ (startTravel c l d s).fills
    = s.fills ∧ (startTravel c l d s).table = s.table ∧ (startTravel c l d s).round = s.round ∧
    (startTravel c l d s).journal = s.journal ∧ (startTravel c l d s).alerts = s.alerts ∧
    (startTravel c l d s).host = s.host ∧ (startTravel c l d s).reader = s.reader ∧ (startTravel c
    l d s).restarted = s.restarted ∧ (startTravel c l d s).arriving = s.arriving ∧ (startTravel c
    l d s).draws = s.draws ∧ (startTravel c l d s).pending = s.pending := by
  simp [startTravel]

@[simp] theorem failLatch_frame (c : Column) :
    (failLatch c s).now = s.now ∧ (failLatch c s).clock = s.clock ∧ (failLatch c s).period =
    s.period ∧ (failLatch c s).profile = s.profile ∧ (failLatch c s).access = s.access ∧
    (failLatch c s).ranging = s.ranging ∧ (failLatch c s).fills = s.fills ∧ (failLatch c s).table
    = s.table ∧ (failLatch c s).round = s.round ∧ (failLatch c s).journal = s.journal ∧ (failLatch
    c s).host = s.host ∧ (failLatch c s).reader = s.reader ∧ (failLatch c s).restarted =
    s.restarted ∧ (failLatch c s).arriving = s.arriving ∧ (failLatch c s).draws = s.draws ∧
    (failLatch c s).pending = s.pending := by
  simp [failLatch]

@[simp] theorem releaseRequest_frame (c : Column) :
    (releaseRequest c s).now = s.now ∧ (releaseRequest c s).clock = s.clock ∧ (releaseRequest c
    s).period = s.period ∧ (releaseRequest c s).profile = s.profile ∧ (releaseRequest c s).access
    = s.access ∧ (releaseRequest c s).ranging = s.ranging ∧ (releaseRequest c s).fills = s.fills ∧
    (releaseRequest c s).table = s.table ∧ (releaseRequest c s).round = s.round ∧ (releaseRequest
    c s).journal = s.journal ∧ (releaseRequest c s).host = s.host ∧ (releaseRequest c s).reader =
    s.reader ∧ (releaseRequest c s).restarted = s.restarted ∧ (releaseRequest c s).arriving =
    s.arriving ∧ (releaseRequest c s).draws = s.draws ∧ (releaseRequest c s).pending = s.pending := by
  simp only [releaseRequest]; repeat' split
  all_goals simp

@[simp] theorem homeRequest_frame (c : Column) :
    (homeRequest c s).now = s.now ∧ (homeRequest c s).clock = s.clock ∧ (homeRequest c s).period =
    s.period ∧ (homeRequest c s).profile = s.profile ∧ (homeRequest c s).access = s.access ∧
    (homeRequest c s).ranging = s.ranging ∧ (homeRequest c s).fills = s.fills ∧ (homeRequest c
    s).table = s.table ∧ (homeRequest c s).round = s.round ∧ (homeRequest c s).journal = s.journal
    ∧ (homeRequest c s).alerts = s.alerts ∧ (homeRequest c s).host = s.host ∧ (homeRequest c
    s).reader = s.reader ∧ (homeRequest c s).restarted = s.restarted ∧ (homeRequest c s).arriving
    = s.arriving ∧ (homeRequest c s).draws = s.draws ∧ (homeRequest c s).pending = s.pending := by
  simp only [homeRequest]; repeat' split
  all_goals simp

@[simp] theorem withdrawPermit_frame (c : Column) :
    (withdrawPermit c s).now = s.now ∧ (withdrawPermit c s).clock = s.clock ∧ (withdrawPermit c
    s).period = s.period ∧ (withdrawPermit c s).profile = s.profile ∧ (withdrawPermit c s).access
    = s.access ∧ (withdrawPermit c s).ranging = s.ranging ∧ (withdrawPermit c s).fills = s.fills ∧
    (withdrawPermit c s).table = s.table ∧ (withdrawPermit c s).round = s.round ∧ (withdrawPermit
    c s).journal = s.journal ∧ (withdrawPermit c s).alerts = s.alerts ∧ (withdrawPermit c s).host
    = s.host ∧ (withdrawPermit c s).reader = s.reader ∧ (withdrawPermit c s).restarted =
    s.restarted ∧ (withdrawPermit c s).arriving = s.arriving ∧ (withdrawPermit c s).draws =
    s.draws ∧ (withdrawPermit c s).pending = s.pending := by
  simp [withdrawPermit]

@[simp] theorem takeInput_frame (c : Column) (i : Input) (b : Bool) :
    (takeInput c i b s).clock = s.clock ∧ (takeInput c i b s).period = s.period ∧ (takeInput c i b
    s).profile = s.profile ∧ (takeInput c i b s).access = s.access ∧ (takeInput c i b s).ranging =
    s.ranging ∧ (takeInput c i b s).fills = s.fills ∧ (takeInput c i b s).table = s.table ∧
    (takeInput c i b s).round = s.round ∧ (takeInput c i b s).journal = s.journal ∧ (takeInput c i
    b s).alerts = s.alerts ∧ (takeInput c i b s).host = s.host ∧ (takeInput c i b s).reader =
    s.reader ∧ (takeInput c i b s).restarted = s.restarted ∧ (takeInput c i b s).arriving =
    s.arriving ∧ (takeInput c i b s).draws = s.draws ∧ (takeInput c i b s).pending = s.pending := by
  simp [takeInput]

@[simp] theorem recomputeBand_frame (c : Column) :
    (recomputeBand c s).now = s.now ∧ (recomputeBand c s).clock = s.clock ∧ (recomputeBand c
    s).period = s.period ∧ (recomputeBand c s).profile = s.profile ∧ (recomputeBand c s).sups =
    s.sups ∧ (recomputeBand c s).access = s.access ∧ (recomputeBand c s).ranging = s.ranging ∧
    (recomputeBand c s).table = s.table ∧ (recomputeBand c s).round = s.round ∧ (recomputeBand c
    s).journal = s.journal ∧ (recomputeBand c s).host = s.host ∧ (recomputeBand c s).reader =
    s.reader ∧ (recomputeBand c s).restarted = s.restarted ∧ (recomputeBand c s).arriving =
    s.arriving ∧ (recomputeBand c s).draws = s.draws ∧ (recomputeBand c s).pending = s.pending := by
  simp [recomputeBand]

@[simp] theorem raiseOverfill_frame (c : Column) (n : Nat) :
    (raiseOverfill c n s).now = s.now ∧ (raiseOverfill c n s).clock = s.clock ∧ (raiseOverfill c n
    s).period = s.period ∧ (raiseOverfill c n s).profile = s.profile ∧ (raiseOverfill c n s).sups
    = s.sups ∧ (raiseOverfill c n s).access = s.access ∧ (raiseOverfill c n s).ranging = s.ranging
    ∧ (raiseOverfill c n s).fills = s.fills ∧ (raiseOverfill c n s).table = s.table ∧
    (raiseOverfill c n s).round = s.round ∧ (raiseOverfill c n s).journal = s.journal ∧
    (raiseOverfill c n s).host = s.host ∧ (raiseOverfill c n s).reader = s.reader ∧ (raiseOverfill
    c n s).restarted = s.restarted ∧ (raiseOverfill c n s).arriving = s.arriving ∧ (raiseOverfill
    c n s).draws = s.draws ∧ (raiseOverfill c n s).pending = s.pending := by
  simp only [raiseOverfill]; repeat' split
  all_goals simp

@[simp] theorem trackSuccess_frame (c : Column) (n : Nat) :
    (trackSuccess c n s).now = s.now ∧ (trackSuccess c n s).clock = s.clock ∧ (trackSuccess c n
    s).period = s.period ∧ (trackSuccess c n s).profile = s.profile ∧ (trackSuccess c n s).sups =
    s.sups ∧ (trackSuccess c n s).access = s.access ∧ (trackSuccess c n s).ranging = s.ranging ∧
    (trackSuccess c n s).table = s.table ∧ (trackSuccess c n s).round = s.round ∧ (trackSuccess c
    n s).journal = s.journal ∧ (trackSuccess c n s).host = s.host ∧ (trackSuccess c n s).reader =
    s.reader ∧ (trackSuccess c n s).restarted = s.restarted ∧ (trackSuccess c n s).arriving =
    s.arriving ∧ (trackSuccess c n s).draws = s.draws ∧ (trackSuccess c n s).pending = s.pending := by
  simp [trackSuccess]

@[simp] theorem countFailure_frame (c : Column) :
    (countFailure c s).now = s.now ∧ (countFailure c s).clock = s.clock ∧ (countFailure c
    s).period = s.period ∧ (countFailure c s).profile = s.profile ∧ (countFailure c s).sups =
    s.sups ∧ (countFailure c s).access = s.access ∧ (countFailure c s).table = s.table ∧
    (countFailure c s).round = s.round ∧ (countFailure c s).journal = s.journal ∧ (countFailure c
    s).host = s.host ∧ (countFailure c s).reader = s.reader ∧ (countFailure c s).restarted =
    s.restarted ∧ (countFailure c s).arriving = s.arriving ∧ (countFailure c s).draws = s.draws ∧
    (countFailure c s).pending = s.pending := by
  simp only [countFailure]; repeat' split
  all_goals simp

@[simp] theorem trackEmptied_frame (c : Column) :
    (trackEmptied c s).now = s.now ∧ (trackEmptied c s).clock = s.clock ∧ (trackEmptied c
    s).period = s.period ∧ (trackEmptied c s).profile = s.profile ∧ (trackEmptied c s).sups =
    s.sups ∧ (trackEmptied c s).access = s.access ∧ (trackEmptied c s).ranging = s.ranging ∧
    (trackEmptied c s).table = s.table ∧ (trackEmptied c s).round = s.round ∧ (trackEmptied c
    s).journal = s.journal ∧ (trackEmptied c s).host = s.host ∧ (trackEmptied c s).reader =
    s.reader ∧ (trackEmptied c s).restarted = s.restarted ∧ (trackEmptied c s).arriving =
    s.arriving ∧ (trackEmptied c s).draws = s.draws ∧ (trackEmptied c s).pending = s.pending := by
  simp [trackEmptied]

@[simp] theorem enqueue_frame (c : Column) :
    (enqueue c s).now = s.now ∧ (enqueue c s).clock = s.clock ∧ (enqueue c s).period = s.period ∧
    (enqueue c s).profile = s.profile ∧ (enqueue c s).sups = s.sups ∧ (enqueue c s).access =
    s.access ∧ (enqueue c s).fills = s.fills ∧ (enqueue c s).table = s.table ∧ (enqueue c s).round
    = s.round ∧ (enqueue c s).journal = s.journal ∧ (enqueue c s).alerts = s.alerts ∧ (enqueue c
    s).host = s.host ∧ (enqueue c s).reader = s.reader ∧ (enqueue c s).restarted = s.restarted ∧
    (enqueue c s).arriving = s.arriving ∧ (enqueue c s).draws = s.draws ∧ (enqueue c s).pending =
    s.pending := by
  simp [enqueue]

@[simp] theorem frontRequest_frame (c : Column) :
    (frontRequest c s).now = s.now ∧ (frontRequest c s).clock = s.clock ∧ (frontRequest c
    s).period = s.period ∧ (frontRequest c s).profile = s.profile ∧ (frontRequest c s).sups =
    s.sups ∧ (frontRequest c s).access = s.access ∧ (frontRequest c s).fills = s.fills ∧
    (frontRequest c s).table = s.table ∧ (frontRequest c s).round = s.round ∧ (frontRequest c
    s).journal = s.journal ∧ (frontRequest c s).alerts = s.alerts ∧ (frontRequest c s).host =
    s.host ∧ (frontRequest c s).reader = s.reader ∧ (frontRequest c s).restarted = s.restarted ∧
    (frontRequest c s).arriving = s.arriving ∧ (frontRequest c s).draws = s.draws ∧ (frontRequest
    c s).pending = s.pending := by
  simp [frontRequest]

@[simp] theorem trackDeposit_frame (c : Column) :
    (trackDeposit c s).now = s.now ∧ (trackDeposit c s).clock = s.clock ∧ (trackDeposit c
    s).period = s.period ∧ (trackDeposit c s).profile = s.profile ∧ (trackDeposit c s).sups =
    s.sups ∧ (trackDeposit c s).access = s.access ∧ (trackDeposit c s).table = s.table ∧
    (trackDeposit c s).round = s.round ∧ (trackDeposit c s).journal = s.journal ∧ (trackDeposit c
    s).host = s.host ∧ (trackDeposit c s).reader = s.reader ∧ (trackDeposit c s).restarted =
    s.restarted ∧ (trackDeposit c s).arriving = s.arriving ∧ (trackDeposit c s).draws = s.draws ∧
    (trackDeposit c s).pending = s.pending := by
  simp only [trackDeposit]; repeat' split
  all_goals simp

@[simp] theorem advancePointer_frame :
    (advancePointer s).now = s.now ∧ (advancePointer s).clock = s.clock ∧ (advancePointer
    s).period = s.period ∧ (advancePointer s).profile = s.profile ∧ (advancePointer s).sups =
    s.sups ∧ (advancePointer s).access = s.access ∧ (advancePointer s).fills = s.fills ∧
    (advancePointer s).table = s.table ∧ (advancePointer s).round = s.round ∧ (advancePointer
    s).journal = s.journal ∧ (advancePointer s).alerts = s.alerts ∧ (advancePointer s).host =
    s.host ∧ (advancePointer s).reader = s.reader ∧ (advancePointer s).restarted = s.restarted ∧
    (advancePointer s).arriving = s.arriving ∧ (advancePointer s).draws = s.draws ∧
    (advancePointer s).pending = s.pending := by
  simp only [advancePointer]; repeat' split
  all_goals simp

@[simp] theorem startBurst_frame (c : Column) (p : Purpose) :
    (startBurst c p s).now = s.now ∧ (startBurst c p s).clock = s.clock ∧ (startBurst c p
    s).period = s.period ∧ (startBurst c p s).profile = s.profile ∧ (startBurst c p s).sups =
    s.sups ∧ (startBurst c p s).access = s.access ∧ (startBurst c p s).fills = s.fills ∧
    (startBurst c p s).table = s.table ∧ (startBurst c p s).round = s.round ∧ (startBurst c p
    s).journal = s.journal ∧ (startBurst c p s).alerts = s.alerts ∧ (startBurst c p s).host =
    s.host ∧ (startBurst c p s).reader = s.reader ∧ (startBurst c p s).restarted = s.restarted ∧
    (startBurst c p s).arriving = s.arriving ∧ (startBurst c p s).draws = s.draws ∧ (startBurst c
    p s).pending = s.pending := by
  simp [startBurst]

@[simp] theorem endBurst_frame :
    (endBurst s).now = s.now ∧ (endBurst s).clock = s.clock ∧ (endBurst s).period = s.period ∧
    (endBurst s).profile = s.profile ∧ (endBurst s).sups = s.sups ∧ (endBurst s).access = s.access
    ∧ (endBurst s).fills = s.fills ∧ (endBurst s).table = s.table ∧ (endBurst s).round = s.round ∧
    (endBurst s).journal = s.journal ∧ (endBurst s).alerts = s.alerts ∧ (endBurst s).host = s.host
    ∧ (endBurst s).reader = s.reader ∧ (endBurst s).restarted = s.restarted ∧ (endBurst
    s).arriving = s.arriving ∧ (endBurst s).draws = s.draws ∧ (endBurst s).pending = s.pending := by
  simp only [endBurst]; repeat' split
  all_goals simp

@[simp] theorem abandonBurst_frame (c : Column) :
    (abandonBurst c s).now = s.now ∧ (abandonBurst c s).clock = s.clock ∧ (abandonBurst c
    s).period = s.period ∧ (abandonBurst c s).profile = s.profile ∧ (abandonBurst c s).sups =
    s.sups ∧ (abandonBurst c s).access = s.access ∧ (abandonBurst c s).fills = s.fills ∧
    (abandonBurst c s).table = s.table ∧ (abandonBurst c s).round = s.round ∧ (abandonBurst c
    s).journal = s.journal ∧ (abandonBurst c s).alerts = s.alerts ∧ (abandonBurst c s).host =
    s.host ∧ (abandonBurst c s).reader = s.reader ∧ (abandonBurst c s).restarted = s.restarted ∧
    (abandonBurst c s).arriving = s.arriving ∧ (abandonBurst c s).draws = s.draws ∧ (abandonBurst
    c s).pending = s.pending := by
  simp only [abandonBurst]; repeat' split
  all_goals simp

@[simp] theorem dropColumn_frame (c : Column) :
    (dropColumn c s).now = s.now ∧ (dropColumn c s).clock = s.clock ∧ (dropColumn c s).period =
    s.period ∧ (dropColumn c s).profile = s.profile ∧ (dropColumn c s).sups = s.sups ∧ (dropColumn
    c s).access = s.access ∧ (dropColumn c s).fills = s.fills ∧ (dropColumn c s).table = s.table ∧
    (dropColumn c s).round = s.round ∧ (dropColumn c s).journal = s.journal ∧ (dropColumn c
    s).alerts = s.alerts ∧ (dropColumn c s).host = s.host ∧ (dropColumn c s).reader = s.reader ∧
    (dropColumn c s).restarted = s.restarted ∧ (dropColumn c s).arriving = s.arriving ∧
    (dropColumn c s).draws = s.draws ∧ (dropColumn c s).pending = s.pending := by
  simp only [dropColumn]; repeat' split
  all_goals simp

@[simp] theorem lowerSkip_frame (c : Column) :
    (lowerSkip c s).now = s.now ∧ (lowerSkip c s).clock = s.clock ∧ (lowerSkip c s).period =
    s.period ∧ (lowerSkip c s).profile = s.profile ∧ (lowerSkip c s).sups = s.sups ∧ (lowerSkip c
    s).access = s.access ∧ (lowerSkip c s).fills = s.fills ∧ (lowerSkip c s).table = s.table ∧
    (lowerSkip c s).round = s.round ∧ (lowerSkip c s).journal = s.journal ∧ (lowerSkip c s).alerts
    = s.alerts ∧ (lowerSkip c s).host = s.host ∧ (lowerSkip c s).reader = s.reader ∧ (lowerSkip c
    s).restarted = s.restarted ∧ (lowerSkip c s).arriving = s.arriving ∧ (lowerSkip c s).draws =
    s.draws ∧ (lowerSkip c s).pending = s.pending := by
  simp [lowerSkip]

@[simp] theorem reloadSkip_frame (c : Column) :
    (reloadSkip c s).now = s.now ∧ (reloadSkip c s).clock = s.clock ∧ (reloadSkip c s).period =
    s.period ∧ (reloadSkip c s).profile = s.profile ∧ (reloadSkip c s).sups = s.sups ∧ (reloadSkip
    c s).access = s.access ∧ (reloadSkip c s).fills = s.fills ∧ (reloadSkip c s).table = s.table ∧
    (reloadSkip c s).round = s.round ∧ (reloadSkip c s).journal = s.journal ∧ (reloadSkip c
    s).alerts = s.alerts ∧ (reloadSkip c s).host = s.host ∧ (reloadSkip c s).reader = s.reader ∧
    (reloadSkip c s).restarted = s.restarted ∧ (reloadSkip c s).arriving = s.arriving ∧
    (reloadSkip c s).draws = s.draws ∧ (reloadSkip c s).pending = s.pending := by
  simp [reloadSkip]

@[simp] theorem scanWalk_frame (n : Nat) :
    (scanWalk n s).now = s.now ∧ (scanWalk n s).clock = s.clock ∧ (scanWalk n s).period = s.period
    ∧ (scanWalk n s).profile = s.profile ∧ (scanWalk n s).sups = s.sups ∧ (scanWalk n s).access =
    s.access ∧ (scanWalk n s).fills = s.fills ∧ (scanWalk n s).table = s.table ∧ (scanWalk n
    s).round = s.round ∧ (scanWalk n s).journal = s.journal ∧ (scanWalk n s).alerts = s.alerts ∧
    (scanWalk n s).host = s.host ∧ (scanWalk n s).reader = s.reader ∧ (scanWalk n s).restarted =
    s.restarted ∧ (scanWalk n s).arriving = s.arriving ∧ (scanWalk n s).draws = s.draws ∧
    (scanWalk n s).pending = s.pending := by
  induction n generalizing s with
  | zero => simp [scanWalk]
  | succ n ih => simp only [scanWalk]; repeat' split
                 all_goals simp_all

@[simp] theorem chooseNext_frame :
    (chooseNext s).now = s.now ∧ (chooseNext s).clock = s.clock ∧ (chooseNext s).period = s.period
    ∧ (chooseNext s).profile = s.profile ∧ (chooseNext s).sups = s.sups ∧ (chooseNext s).access =
    s.access ∧ (chooseNext s).fills = s.fills ∧ (chooseNext s).table = s.table ∧ (chooseNext
    s).round = s.round ∧ (chooseNext s).journal = s.journal ∧ (chooseNext s).alerts = s.alerts ∧
    (chooseNext s).host = s.host ∧ (chooseNext s).reader = s.reader ∧ (chooseNext s).restarted =
    s.restarted ∧ (chooseNext s).arriving = s.arriving ∧ (chooseNext s).draws = s.draws ∧
    (chooseNext s).pending = s.pending := by
  simp only [chooseNext]; repeat' split
  all_goals simp

@[simp] theorem State.ready_frame :
    (State.ready s).now = s.now ∧ (State.ready s).clock = s.clock ∧ (State.ready s).period =
    s.period ∧ (State.ready s).profile = s.profile ∧ (State.ready s).sups = s.sups ∧ (State.ready
    s).access = s.access ∧ (State.ready s).fills = s.fills ∧ (State.ready s).table = s.table ∧
    (State.ready s).round = s.round ∧ (State.ready s).journal = s.journal ∧ (State.ready s).alerts
    = s.alerts ∧ (State.ready s).host = s.host ∧ (State.ready s).reader = s.reader ∧ (State.ready
    s).restarted = s.restarted ∧ (State.ready s).arriving = s.arriving ∧ (State.ready s).draws =
    s.draws ∧ (State.ready s).pending = s.pending := by
  simp only [State.ready]; repeat' split
  all_goals simp

@[simp] theorem arriveLocked_frame (c : Column) :
    (arriveLocked c s).now = s.now ∧ (arriveLocked c s).clock = s.clock ∧ (arriveLocked c
    s).period = s.period ∧ (arriveLocked c s).profile = s.profile ∧ (arriveLocked c s).sups =
    s.sups ∧ (arriveLocked c s).ranging = s.ranging ∧ (arriveLocked c s).fills = s.fills ∧
    (arriveLocked c s).table = s.table ∧ (arriveLocked c s).round = s.round ∧ (arriveLocked c
    s).journal = s.journal ∧ (arriveLocked c s).alerts = s.alerts ∧ (arriveLocked c s).host =
    s.host ∧ (arriveLocked c s).reader = s.reader ∧ (arriveLocked c s).restarted = s.restarted ∧
    (arriveLocked c s).arriving = s.arriving ∧ (arriveLocked c s).draws = s.draws ∧ (arriveLocked
    c s).pending = s.pending := by
  simp [arriveLocked]

@[simp] theorem goHoming_frame (c : Column) :
    (goHoming c s).now = s.now ∧ (goHoming c s).clock = s.clock ∧ (goHoming c s).period = s.period
    ∧ (goHoming c s).profile = s.profile ∧ (goHoming c s).ranging = s.ranging ∧ (goHoming c
    s).fills = s.fills ∧ (goHoming c s).table = s.table ∧ (goHoming c s).round = s.round ∧
    (goHoming c s).journal = s.journal ∧ (goHoming c s).alerts = s.alerts ∧ (goHoming c s).host =
    s.host ∧ (goHoming c s).reader = s.reader ∧ (goHoming c s).restarted = s.restarted ∧ (goHoming
    c s).arriving = s.arriving ∧ (goHoming c s).draws = s.draws ∧ (goHoming c s).pending =
    s.pending := by
  simp only [goHoming]; repeat' split
  all_goals simp

@[simp] theorem refundGrant_frame (g : GrantContext) :
    (refundGrant g s).now = s.now ∧ (refundGrant g s).clock = s.clock ∧ (refundGrant g s).period =
    s.period ∧ (refundGrant g s).profile = s.profile ∧ (refundGrant g s).sups = s.sups ∧
    (refundGrant g s).access = s.access ∧ (refundGrant g s).ranging = s.ranging ∧ (refundGrant g
    s).fills = s.fills ∧ (refundGrant g s).round = s.round ∧ (refundGrant g s).journal = s.journal
    ∧ (refundGrant g s).alerts = s.alerts ∧ (refundGrant g s).host = s.host ∧ (refundGrant g
    s).reader = s.reader ∧ (refundGrant g s).restarted = s.restarted ∧ (refundGrant g s).arriving
    = s.arriving ∧ (refundGrant g s).draws = s.draws ∧ (refundGrant g s).pending = s.pending := by
  simp only [refundGrant]; repeat' split
  all_goals simp

@[simp] theorem undoGrant_frame (c : Column) :
    (undoGrant c s).now = s.now ∧ (undoGrant c s).clock = s.clock ∧ (undoGrant c s).period =
    s.period ∧ (undoGrant c s).profile = s.profile ∧ (undoGrant c s).sups = s.sups ∧ (undoGrant c
    s).access = s.access ∧ (undoGrant c s).ranging = s.ranging ∧ (undoGrant c s).fills = s.fills ∧
    (undoGrant c s).round = s.round ∧ (undoGrant c s).alerts = s.alerts ∧ (undoGrant c s).host =
    s.host ∧ (undoGrant c s).reader = s.reader ∧ (undoGrant c s).restarted = s.restarted ∧
    (undoGrant c s).arriving = s.arriving ∧ (undoGrant c s).draws = s.draws ∧ (undoGrant c
    s).pending = s.pending := by
  simp only [undoGrant]; repeat' split
  all_goals simp

@[simp] theorem cutGrant_frame (c : Column) (v : VerdictCode) :
    (cutGrant c v s).now = s.now ∧ (cutGrant c v s).clock = s.clock ∧ (cutGrant c v s).period =
    s.period ∧ (cutGrant c v s).profile = s.profile ∧ (cutGrant c v s).ranging = s.ranging ∧
    (cutGrant c v s).fills = s.fills ∧ (cutGrant c v s).round = s.round ∧ (cutGrant c v s).alerts
    = s.alerts ∧ (cutGrant c v s).host = s.host ∧ (cutGrant c v s).restarted = s.restarted ∧
    (cutGrant c v s).arriving = s.arriving ∧ (cutGrant c v s).draws = s.draws ∧ (cutGrant c v
    s).pending = s.pending := by
  simp [cutGrant]

@[simp] theorem releaseFailed_frame (c : Column) :
    (releaseFailed c s).now = s.now ∧ (releaseFailed c s).clock = s.clock ∧ (releaseFailed c
    s).period = s.period ∧ (releaseFailed c s).profile = s.profile ∧ (releaseFailed c s).sups =
    s.sups ∧ (releaseFailed c s).ranging = s.ranging ∧ (releaseFailed c s).fills = s.fills ∧
    (releaseFailed c s).round = s.round ∧ (releaseFailed c s).alerts = s.alerts ∧ (releaseFailed c
    s).host = s.host ∧ (releaseFailed c s).restarted = s.restarted ∧ (releaseFailed c s).arriving
    = s.arriving ∧ (releaseFailed c s).draws = s.draws ∧ (releaseFailed c s).pending = s.pending := by
  simp [releaseFailed]

@[simp] theorem leaveLocked_frame (c : Column) (a : AccessState) :
    (leaveLocked c a s).now = s.now ∧ (leaveLocked c a s).clock = s.clock ∧ (leaveLocked c a
    s).period = s.period ∧ (leaveLocked c a s).profile = s.profile ∧ (leaveLocked c a s).sups =
    s.sups ∧ (leaveLocked c a s).fills = s.fills ∧ (leaveLocked c a s).table = s.table ∧
    (leaveLocked c a s).round = s.round ∧ (leaveLocked c a s).journal = s.journal ∧ (leaveLocked c
    a s).alerts = s.alerts ∧ (leaveLocked c a s).host = s.host ∧ (leaveLocked c a s).reader =
    s.reader ∧ (leaveLocked c a s).restarted = s.restarted ∧ (leaveLocked c a s).arriving =
    s.arriving ∧ (leaveLocked c a s).draws = s.draws ∧ (leaveLocked c a s).pending = s.pending := by
  simp [leaveLocked]

@[simp] theorem makeGrant_frame (c : Column) (n : CardNumber) (f : Found) :
    (makeGrant c n f s).now = s.now ∧ (makeGrant c n f s).clock = s.clock ∧ (makeGrant c n f
    s).period = s.period ∧ (makeGrant c n f s).profile = s.profile ∧ (makeGrant c n f s).fills =
    s.fills ∧ (makeGrant c n f s).round = s.round ∧ (makeGrant c n f s).host = s.host ∧ (makeGrant
    c n f s).restarted = s.restarted ∧ (makeGrant c n f s).arriving = s.arriving ∧ (makeGrant c n
    f s).draws = s.draws ∧ (makeGrant c n f s).pending = s.pending := by
  simp only [makeGrant]; repeat' split
  all_goals simp

@[simp] theorem sendGrantVerdict_frame (c : Column) :
    (sendGrantVerdict c s).now = s.now ∧ (sendGrantVerdict c s).clock = s.clock ∧
    (sendGrantVerdict c s).period = s.period ∧ (sendGrantVerdict c s).profile = s.profile ∧
    (sendGrantVerdict c s).sups = s.sups ∧ (sendGrantVerdict c s).ranging = s.ranging ∧
    (sendGrantVerdict c s).fills = s.fills ∧ (sendGrantVerdict c s).table = s.table ∧
    (sendGrantVerdict c s).round = s.round ∧ (sendGrantVerdict c s).journal = s.journal ∧
    (sendGrantVerdict c s).alerts = s.alerts ∧ (sendGrantVerdict c s).host = s.host ∧
    (sendGrantVerdict c s).restarted = s.restarted ∧ (sendGrantVerdict c s).arriving = s.arriving
    ∧ (sendGrantVerdict c s).draws = s.draws ∧ (sendGrantVerdict c s).pending = s.pending := by
  simp only [sendGrantVerdict]; repeat' split
  all_goals simp

@[simp] theorem accessReleased_frame (c : Column) :
    (accessReleased c s).now = s.now ∧ (accessReleased c s).clock = s.clock ∧ (accessReleased c
    s).period = s.period ∧ (accessReleased c s).profile = s.profile ∧ (accessReleased c s).ranging
    = s.ranging ∧ (accessReleased c s).fills = s.fills ∧ (accessReleased c s).round = s.round ∧
    (accessReleased c s).alerts = s.alerts ∧ (accessReleased c s).host = s.host ∧ (accessReleased
    c s).restarted = s.restarted ∧ (accessReleased c s).arriving = s.arriving ∧ (accessReleased c
    s).draws = s.draws ∧ (accessReleased c s).pending = s.pending := by
  simp only [accessReleased]; repeat' split
  all_goals simp

@[simp] theorem accessHome_frame (c : Column) :
    (accessHome c s).now = s.now ∧ (accessHome c s).clock = s.clock ∧ (accessHome c s).period =
    s.period ∧ (accessHome c s).profile = s.profile ∧ (accessHome c s).sups = s.sups ∧ (accessHome
    c s).ranging = s.ranging ∧ (accessHome c s).fills = s.fills ∧ (accessHome c s).table = s.table
    ∧ (accessHome c s).round = s.round ∧ (accessHome c s).journal = s.journal ∧ (accessHome c
    s).alerts = s.alerts ∧ (accessHome c s).host = s.host ∧ (accessHome c s).reader = s.reader ∧
    (accessHome c s).restarted = s.restarted ∧ (accessHome c s).arriving = s.arriving ∧
    (accessHome c s).draws = s.draws ∧ (accessHome c s).pending = s.pending := by
  simp only [accessHome]; repeat' split
  all_goals simp

@[simp] theorem accessFailed_frame (c : Column) :
    (accessFailed c s).now = s.now ∧ (accessFailed c s).clock = s.clock ∧ (accessFailed c
    s).period = s.period ∧ (accessFailed c s).profile = s.profile ∧ (accessFailed c s).sups =
    s.sups ∧ (accessFailed c s).ranging = s.ranging ∧ (accessFailed c s).fills = s.fills ∧
    (accessFailed c s).round = s.round ∧ (accessFailed c s).alerts = s.alerts ∧ (accessFailed c
    s).host = s.host ∧ (accessFailed c s).restarted = s.restarted ∧ (accessFailed c s).arriving =
    s.arriving ∧ (accessFailed c s).draws = s.draws ∧ (accessFailed c s).pending = s.pending := by
  simp only [accessFailed]; repeat' split
  all_goals simp

@[simp] theorem accessReport_frame (c : Column) (r : Option LatchReport) :
    (accessReport c r s).now = s.now ∧ (accessReport c r s).clock = s.clock ∧ (accessReport c r
    s).period = s.period ∧ (accessReport c r s).profile = s.profile ∧ (accessReport c r s).ranging
    = s.ranging ∧ (accessReport c r s).fills = s.fills ∧ (accessReport c r s).round = s.round ∧
    (accessReport c r s).alerts = s.alerts ∧ (accessReport c r s).host = s.host ∧ (accessReport c
    r s).restarted = s.restarted ∧ (accessReport c r s).arriving = s.arriving ∧ (accessReport c r
    s).draws = s.draws ∧ (accessReport c r s).pending = s.pending := by
  simp only [accessReport]; repeat' split
  all_goals simp

@[simp] theorem openUnderGrant_frame (c : Column) :
    (openUnderGrant c s).now = s.now ∧ (openUnderGrant c s).clock = s.clock ∧ (openUnderGrant c
    s).period = s.period ∧ (openUnderGrant c s).profile = s.profile ∧ (openUnderGrant c s).sups =
    s.sups ∧ (openUnderGrant c s).ranging = s.ranging ∧ (openUnderGrant c s).fills = s.fills ∧
    (openUnderGrant c s).table = s.table ∧ (openUnderGrant c s).round = s.round ∧ (openUnderGrant
    c s).journal = s.journal ∧ (openUnderGrant c s).alerts = s.alerts ∧ (openUnderGrant c s).host
    = s.host ∧ (openUnderGrant c s).reader = s.reader ∧ (openUnderGrant c s).restarted =
    s.restarted ∧ (openUnderGrant c s).arriving = s.arriving ∧ (openUnderGrant c s).draws =
    s.draws ∧ (openUnderGrant c s).pending = s.pending := by
  simp [openUnderGrant]

@[simp] theorem accessOpened_frame (c : Column) :
    (accessOpened c s).now = s.now ∧ (accessOpened c s).clock = s.clock ∧ (accessOpened c
    s).period = s.period ∧ (accessOpened c s).profile = s.profile ∧ (accessOpened c s).fills =
    s.fills ∧ (accessOpened c s).table = s.table ∧ (accessOpened c s).round = s.round ∧
    (accessOpened c s).journal = s.journal ∧ (accessOpened c s).host = s.host ∧ (accessOpened c
    s).restarted = s.restarted ∧ (accessOpened c s).arriving = s.arriving ∧ (accessOpened c
    s).draws = s.draws ∧ (accessOpened c s).pending = s.pending := by
  simp only [accessOpened]; repeat' split
  all_goals simp

@[simp] theorem appendInsertion_frame (c : Column) (g : GrantContext) (i : Bool) :
    (appendInsertion c g i s).now = s.now ∧ (appendInsertion c g i s).clock = s.clock ∧
    (appendInsertion c g i s).period = s.period ∧ (appendInsertion c g i s).profile = s.profile ∧
    (appendInsertion c g i s).sups = s.sups ∧ (appendInsertion c g i s).access = s.access ∧
    (appendInsertion c g i s).ranging = s.ranging ∧ (appendInsertion c g i s).fills = s.fills ∧
    (appendInsertion c g i s).table = s.table ∧ (appendInsertion c g i s).round = s.round ∧
    (appendInsertion c g i s).host = s.host ∧ (appendInsertion c g i s).reader = s.reader ∧
    (appendInsertion c g i s).restarted = s.restarted ∧ (appendInsertion c g i s).arriving =
    s.arriving ∧ (appendInsertion c g i s).draws = s.draws ∧ (appendInsertion c g i s).pending =
    s.pending := by
  simp [appendInsertion]

@[simp] theorem appendServiceOpen_frame (c : Column) (g : GrantContext) (i : Bool) :
    (appendServiceOpen c g i s).now = s.now ∧ (appendServiceOpen c g i s).clock = s.clock ∧
    (appendServiceOpen c g i s).period = s.period ∧ (appendServiceOpen c g i s).profile =
    s.profile ∧ (appendServiceOpen c g i s).sups = s.sups ∧ (appendServiceOpen c g i s).access =
    s.access ∧ (appendServiceOpen c g i s).ranging = s.ranging ∧ (appendServiceOpen c g i s).fills
    = s.fills ∧ (appendServiceOpen c g i s).table = s.table ∧ (appendServiceOpen c g i s).round =
    s.round ∧ (appendServiceOpen c g i s).host = s.host ∧ (appendServiceOpen c g i s).reader =
    s.reader ∧ (appendServiceOpen c g i s).restarted = s.restarted ∧ (appendServiceOpen c g i
    s).arriving = s.arriving ∧ (appendServiceOpen c g i s).draws = s.draws ∧ (appendServiceOpen c
    g i s).pending = s.pending := by
  simp [appendServiceOpen]

@[simp] theorem countUse_frame (g : GrantContext) :
    (countUse g s).now = s.now ∧ (countUse g s).clock = s.clock ∧ (countUse g s).period = s.period
    ∧ (countUse g s).profile = s.profile ∧ (countUse g s).sups = s.sups ∧ (countUse g s).access =
    s.access ∧ (countUse g s).ranging = s.ranging ∧ (countUse g s).fills = s.fills ∧ (countUse g
    s).round = s.round ∧ (countUse g s).journal = s.journal ∧ (countUse g s).alerts = s.alerts ∧
    (countUse g s).host = s.host ∧ (countUse g s).reader = s.reader ∧ (countUse g s).restarted =
    s.restarted ∧ (countUse g s).arriving = s.arriving ∧ (countUse g s).draws = s.draws ∧
    (countUse g s).pending = s.pending := by
  simp [countUse]

@[simp] theorem countInsertion_frame (c : Column) :
    (countInsertion c s).now = s.now ∧ (countInsertion c s).clock = s.clock ∧ (countInsertion c
    s).period = s.period ∧ (countInsertion c s).profile = s.profile ∧ (countInsertion c s).sups =
    s.sups ∧ (countInsertion c s).ranging = s.ranging ∧ (countInsertion c s).fills = s.fills ∧
    (countInsertion c s).table = s.table ∧ (countInsertion c s).round = s.round ∧ (countInsertion
    c s).journal = s.journal ∧ (countInsertion c s).alerts = s.alerts ∧ (countInsertion c s).host
    = s.host ∧ (countInsertion c s).reader = s.reader ∧ (countInsertion c s).restarted =
    s.restarted ∧ (countInsertion c s).arriving = s.arriving ∧ (countInsertion c s).draws =
    s.draws ∧ (countInsertion c s).pending = s.pending := by
  simp [countInsertion]

@[simp] theorem settleOpened_frame (c : Column) (g : GrantContext) (i j : Bool) :
    (settleOpened c g i j s).now = s.now ∧ (settleOpened c g i j s).clock = s.clock ∧
    (settleOpened c g i j s).period = s.period ∧ (settleOpened c g i j s).profile = s.profile ∧
    (settleOpened c g i j s).sups = s.sups ∧ (settleOpened c g i j s).round = s.round ∧
    (settleOpened c g i j s).host = s.host ∧ (settleOpened c g i j s).reader = s.reader ∧
    (settleOpened c g i j s).restarted = s.restarted ∧ (settleOpened c g i j s).arriving =
    s.arriving ∧ (settleOpened c g i j s).draws = s.draws ∧ (settleOpened c g i j s).pending =
    s.pending := by
  simp only [settleOpened]; repeat' split
  all_goals simp

@[simp] theorem accessClosed_frame (c : Column) :
    (accessClosed c s).now = s.now ∧ (accessClosed c s).clock = s.clock ∧ (accessClosed c
    s).period = s.period ∧ (accessClosed c s).profile = s.profile ∧ (accessClosed c s).round =
    s.round ∧ (accessClosed c s).host = s.host ∧ (accessClosed c s).reader = s.reader ∧
    (accessClosed c s).restarted = s.restarted ∧ (accessClosed c s).arriving = s.arriving ∧
    (accessClosed c s).draws = s.draws ∧ (accessClosed c s).pending = s.pending := by
  simp only [accessClosed]; repeat' split
  all_goals simp

@[simp] theorem drainRequest_frame (c : Column) :
    (drainRequest c s).now = s.now ∧ (drainRequest c s).clock = s.clock ∧ (drainRequest c
    s).period = s.period ∧ (drainRequest c s).profile = s.profile ∧ (drainRequest c s).ranging =
    s.ranging ∧ (drainRequest c s).fills = s.fills ∧ (drainRequest c s).round = s.round ∧
    (drainRequest c s).alerts = s.alerts ∧ (drainRequest c s).host = s.host ∧ (drainRequest c
    s).restarted = s.restarted ∧ (drainRequest c s).arriving = s.arriving ∧ (drainRequest c
    s).draws = s.draws ∧ (drainRequest c s).pending = s.pending := by
  simp only [drainRequest]; repeat' split
  all_goals simp

@[simp] theorem endDrain_frame (c : Column) :
    (endDrain c s).now = s.now ∧ (endDrain c s).clock = s.clock ∧ (endDrain c s).period = s.period
    ∧ (endDrain c s).profile = s.profile ∧ (endDrain c s).sups = s.sups ∧ (endDrain c s).ranging =
    s.ranging ∧ (endDrain c s).fills = s.fills ∧ (endDrain c s).table = s.table ∧ (endDrain c
    s).round = s.round ∧ (endDrain c s).journal = s.journal ∧ (endDrain c s).alerts = s.alerts ∧
    (endDrain c s).host = s.host ∧ (endDrain c s).reader = s.reader ∧ (endDrain c s).restarted =
    s.restarted ∧ (endDrain c s).arriving = s.arriving ∧ (endDrain c s).draws = s.draws ∧
    (endDrain c s).pending = s.pending := by
  simp only [endDrain]; repeat' split
  all_goals simp

@[simp] theorem accessLifted_frame (c : Column) :
    (accessLifted c s).now = s.now ∧ (accessLifted c s).clock = s.clock ∧ (accessLifted c
    s).period = s.period ∧ (accessLifted c s).profile = s.profile ∧ (accessLifted c s).round =
    s.round ∧ (accessLifted c s).host = s.host ∧ (accessLifted c s).restarted = s.restarted ∧
    (accessLifted c s).arriving = s.arriving ∧ (accessLifted c s).draws = s.draws ∧ (accessLifted
    c s).pending = s.pending := by
  simp only [accessLifted]; repeat' split
  all_goals simp

@[simp] theorem regulate_frame :
    (regulate s).now = s.now ∧ (regulate s).clock = s.clock ∧ (regulate s).period = s.period ∧
    (regulate s).profile = s.profile ∧ (regulate s).sups = s.sups ∧ (regulate s).access = s.access
    ∧ (regulate s).ranging = s.ranging ∧ (regulate s).fills = s.fills ∧ (regulate s).table =
    s.table ∧ (regulate s).journal = s.journal ∧ (regulate s).alerts = s.alerts ∧ (regulate
    s).host = s.host ∧ (regulate s).reader = s.reader ∧ (regulate s).restarted = s.restarted ∧
    (regulate s).arriving = s.arriving ∧ (regulate s).draws = s.draws ∧ (regulate s).pending =
    s.pending := by
  simp [regulate]

@[simp] theorem reloadSupervision_frame :
    (reloadSupervision s).now = s.now ∧ (reloadSupervision s).clock = s.clock ∧ (reloadSupervision
    s).period = s.period ∧ (reloadSupervision s).profile = s.profile ∧ (reloadSupervision s).sups
    = s.sups ∧ (reloadSupervision s).access = s.access ∧ (reloadSupervision s).ranging = s.ranging
    ∧ (reloadSupervision s).fills = s.fills ∧ (reloadSupervision s).table = s.table ∧
    (reloadSupervision s).journal = s.journal ∧ (reloadSupervision s).alerts = s.alerts ∧
    (reloadSupervision s).host = s.host ∧ (reloadSupervision s).reader = s.reader ∧
    (reloadSupervision s).restarted = s.restarted ∧ (reloadSupervision s).arriving = s.arriving ∧
    (reloadSupervision s).draws = s.draws ∧ (reloadSupervision s).pending = s.pending := by
  simp [reloadSupervision]

@[simp] theorem setStage_frame (st : Stage) :
    (setStage st s).now = s.now ∧ (setStage st s).clock = s.clock ∧ (setStage st s).period =
    s.period ∧ (setStage st s).profile = s.profile ∧ (setStage st s).sups = s.sups ∧ (setStage st
    s).access = s.access ∧ (setStage st s).ranging = s.ranging ∧ (setStage st s).fills = s.fills ∧
    (setStage st s).table = s.table ∧ (setStage st s).journal = s.journal ∧ (setStage st s).alerts
    = s.alerts ∧ (setStage st s).host = s.host ∧ (setStage st s).reader = s.reader ∧ (setStage st
    s).restarted = s.restarted ∧ (setStage st s).arriving = s.arriving ∧ (setStage st s).draws =
    s.draws ∧ (setStage st s).pending = s.pending := by
  simp [setStage]

@[simp] theorem finishEntry_frame (c : Column) (o : EntryOutcome) (f : Option FailReason) (a : Option Nat) (r : Bool) :
    (finishEntry c o f a r s).now = s.now ∧ (finishEntry c o f a r s).clock = s.clock ∧
    (finishEntry c o f a r s).period = s.period ∧ (finishEntry c o f a r s).profile = s.profile ∧
    (finishEntry c o f a r s).sups = s.sups ∧ (finishEntry c o f a r s).access = s.access ∧
    (finishEntry c o f a r s).ranging = s.ranging ∧ (finishEntry c o f a r s).fills = s.fills ∧
    (finishEntry c o f a r s).table = s.table ∧ (finishEntry c o f a r s).host = s.host ∧
    (finishEntry c o f a r s).reader = s.reader ∧ (finishEntry c o f a r s).restarted =
    s.restarted ∧ (finishEntry c o f a r s).arriving = s.arriving ∧ (finishEntry c o f a r
    s).draws = s.draws ∧ (finishEntry c o f a r s).pending = s.pending := by
  simp only [finishEntry]; repeat' split
  all_goals simp

@[simp] theorem failEntry_frame (c : Column) (f : FailReason) :
    (failEntry c f s).now = s.now ∧ (failEntry c f s).clock = s.clock ∧ (failEntry c f s).period =
    s.period ∧ (failEntry c f s).profile = s.profile ∧ (failEntry c f s).sups = s.sups ∧
    (failEntry c f s).access = s.access ∧ (failEntry c f s).ranging = s.ranging ∧ (failEntry c f
    s).fills = s.fills ∧ (failEntry c f s).table = s.table ∧ (failEntry c f s).host = s.host ∧
    (failEntry c f s).reader = s.reader ∧ (failEntry c f s).restarted = s.restarted ∧ (failEntry c
    f s).arriving = s.arriving ∧ (failEntry c f s).draws = s.draws ∧ (failEntry c f s).pending =
    s.pending := by
  simp [failEntry]

@[simp] theorem finishAll_frame (o : EntryOutcome) (cs : List Column) :
    (finishAll o cs s).now = s.now ∧ (finishAll o cs s).clock = s.clock ∧ (finishAll o cs
    s).period = s.period ∧ (finishAll o cs s).profile = s.profile ∧ (finishAll o cs s).sups =
    s.sups ∧ (finishAll o cs s).access = s.access ∧ (finishAll o cs s).ranging = s.ranging ∧
    (finishAll o cs s).fills = s.fills ∧ (finishAll o cs s).table = s.table ∧ (finishAll o cs
    s).host = s.host ∧ (finishAll o cs s).reader = s.reader ∧ (finishAll o cs s).restarted =
    s.restarted ∧ (finishAll o cs s).arriving = s.arriving ∧ (finishAll o cs s).draws = s.draws ∧
    (finishAll o cs s).pending = s.pending := by
  unfold finishAll
  induction cs generalizing s with
  | nil => simp
  | cons c cs ih => simp [ih]

@[simp] theorem leaveOpen_frame (st : RoundState) :
    (leaveOpen st s).now = s.now ∧ (leaveOpen st s).clock = s.clock ∧ (leaveOpen st s).period =
    s.period ∧ (leaveOpen st s).profile = s.profile ∧ (leaveOpen st s).sups = s.sups ∧ (leaveOpen
    st s).access = s.access ∧ (leaveOpen st s).ranging = s.ranging ∧ (leaveOpen st s).fills =
    s.fills ∧ (leaveOpen st s).table = s.table ∧ (leaveOpen st s).journal = s.journal ∧ (leaveOpen
    st s).alerts = s.alerts ∧ (leaveOpen st s).host = s.host ∧ (leaveOpen st s).reader = s.reader
    ∧ (leaveOpen st s).restarted = s.restarted ∧ (leaveOpen st s).arriving = s.arriving ∧
    (leaveOpen st s).draws = s.draws ∧ (leaveOpen st s).pending = s.pending := by
  simp [leaveOpen]

@[simp] theorem withdrawActive_frame :
    (withdrawActive s).now = s.now ∧ (withdrawActive s).clock = s.clock ∧ (withdrawActive
    s).period = s.period ∧ (withdrawActive s).profile = s.profile ∧ (withdrawActive s).access =
    s.access ∧ (withdrawActive s).ranging = s.ranging ∧ (withdrawActive s).fills = s.fills ∧
    (withdrawActive s).table = s.table ∧ (withdrawActive s).round = s.round ∧ (withdrawActive
    s).journal = s.journal ∧ (withdrawActive s).alerts = s.alerts ∧ (withdrawActive s).host =
    s.host ∧ (withdrawActive s).reader = s.reader ∧ (withdrawActive s).restarted = s.restarted ∧
    (withdrawActive s).arriving = s.arriving ∧ (withdrawActive s).draws = s.draws ∧
    (withdrawActive s).pending = s.pending := by
  simp only [withdrawActive]; repeat' split
  all_goals simp

@[simp] theorem roundLocked_frame (c : Column) :
    (roundLocked c s).now = s.now ∧ (roundLocked c s).clock = s.clock ∧ (roundLocked c s).period =
    s.period ∧ (roundLocked c s).profile = s.profile ∧ (roundLocked c s).access = s.access ∧
    (roundLocked c s).ranging = s.ranging ∧ (roundLocked c s).fills = s.fills ∧ (roundLocked c
    s).table = s.table ∧ (roundLocked c s).host = s.host ∧ (roundLocked c s).reader = s.reader ∧
    (roundLocked c s).restarted = s.restarted ∧ (roundLocked c s).arriving = s.arriving ∧
    (roundLocked c s).draws = s.draws ∧ (roundLocked c s).pending = s.pending := by
  simp only [roundLocked]; repeat' split
  all_goals simp

@[simp] theorem deliverLocked_frame (c : Column) :
    (deliverLocked c s).now = s.now ∧ (deliverLocked c s).clock = s.clock ∧ (deliverLocked c
    s).period = s.period ∧ (deliverLocked c s).profile = s.profile ∧ (deliverLocked c s).ranging =
    s.ranging ∧ (deliverLocked c s).fills = s.fills ∧ (deliverLocked c s).table = s.table ∧
    (deliverLocked c s).host = s.host ∧ (deliverLocked c s).reader = s.reader ∧ (deliverLocked c
    s).restarted = s.restarted ∧ (deliverLocked c s).arriving = s.arriving ∧ (deliverLocked c
    s).draws = s.draws ∧ (deliverLocked c s).pending = s.pending := by
  simp only [deliverLocked]; repeat' split
  all_goals simp

@[simp] theorem roundOpened_frame (c : Column) :
    (roundOpened c s).now = s.now ∧ (roundOpened c s).clock = s.clock ∧ (roundOpened c s).period =
    s.period ∧ (roundOpened c s).profile = s.profile ∧ (roundOpened c s).access = s.access ∧
    (roundOpened c s).ranging = s.ranging ∧ (roundOpened c s).fills = s.fills ∧ (roundOpened c
    s).table = s.table ∧ (roundOpened c s).host = s.host ∧ (roundOpened c s).reader = s.reader ∧
    (roundOpened c s).restarted = s.restarted ∧ (roundOpened c s).arriving = s.arriving ∧
    (roundOpened c s).draws = s.draws ∧ (roundOpened c s).pending = s.pending := by
  simp only [roundOpened]; repeat' split
  all_goals simp

@[simp] theorem roundLiftOut_frame (c : Column) :
    (roundLiftOut c s).now = s.now ∧ (roundLiftOut c s).clock = s.clock ∧ (roundLiftOut c
    s).period = s.period ∧ (roundLiftOut c s).profile = s.profile ∧ (roundLiftOut c s).sups =
    s.sups ∧ (roundLiftOut c s).access = s.access ∧ (roundLiftOut c s).ranging = s.ranging ∧
    (roundLiftOut c s).fills = s.fills ∧ (roundLiftOut c s).table = s.table ∧ (roundLiftOut c
    s).journal = s.journal ∧ (roundLiftOut c s).alerts = s.alerts ∧ (roundLiftOut c s).host =
    s.host ∧ (roundLiftOut c s).reader = s.reader ∧ (roundLiftOut c s).restarted = s.restarted ∧
    (roundLiftOut c s).arriving = s.arriving ∧ (roundLiftOut c s).draws = s.draws ∧ (roundLiftOut
    c s).pending = s.pending := by
  simp only [roundLiftOut]; repeat' split
  all_goals simp

@[simp] theorem roundLiftIn_frame (c : Column) :
    (roundLiftIn c s).now = s.now ∧ (roundLiftIn c s).clock = s.clock ∧ (roundLiftIn c s).period =
    s.period ∧ (roundLiftIn c s).profile = s.profile ∧ (roundLiftIn c s).access = s.access ∧
    (roundLiftIn c s).ranging = s.ranging ∧ (roundLiftIn c s).fills = s.fills ∧ (roundLiftIn c
    s).table = s.table ∧ (roundLiftIn c s).journal = s.journal ∧ (roundLiftIn c s).alerts =
    s.alerts ∧ (roundLiftIn c s).host = s.host ∧ (roundLiftIn c s).reader = s.reader ∧
    (roundLiftIn c s).restarted = s.restarted ∧ (roundLiftIn c s).arriving = s.arriving ∧
    (roundLiftIn c s).draws = s.draws ∧ (roundLiftIn c s).pending = s.pending := by
  simp only [roundLiftIn]; repeat' split
  all_goals simp

@[simp] theorem roundLifted_frame (c : Column) :
    (roundLifted c s).now = s.now ∧ (roundLifted c s).clock = s.clock ∧ (roundLifted c s).period =
    s.period ∧ (roundLifted c s).profile = s.profile ∧ (roundLifted c s).sups = s.sups ∧
    (roundLifted c s).ranging = s.ranging ∧ (roundLifted c s).fills = s.fills ∧ (roundLifted c
    s).table = s.table ∧ (roundLifted c s).host = s.host ∧ (roundLifted c s).reader = s.reader ∧
    (roundLifted c s).restarted = s.restarted ∧ (roundLifted c s).arriving = s.arriving ∧
    (roundLifted c s).draws = s.draws ∧ (roundLifted c s).pending = s.pending := by
  simp only [roundLifted]; repeat' split
  all_goals simp

@[simp] theorem roundMeasured_frame (c : Column) (f : Option Nat) :
    (roundMeasured c f s).now = s.now ∧ (roundMeasured c f s).clock = s.clock ∧ (roundMeasured c f
    s).period = s.period ∧ (roundMeasured c f s).profile = s.profile ∧ (roundMeasured c f s).sups
    = s.sups ∧ (roundMeasured c f s).access = s.access ∧ (roundMeasured c f s).ranging = s.ranging
    ∧ (roundMeasured c f s).fills = s.fills ∧ (roundMeasured c f s).table = s.table ∧
    (roundMeasured c f s).host = s.host ∧ (roundMeasured c f s).reader = s.reader ∧ (roundMeasured
    c f s).restarted = s.restarted ∧ (roundMeasured c f s).arriving = s.arriving ∧ (roundMeasured
    c f s).draws = s.draws ∧ (roundMeasured c f s).pending = s.pending := by
  simp only [roundMeasured]; repeat' split
  all_goals simp

@[simp] theorem reportOpened_frame (c : Column) :
    (reportOpened c s).now = s.now ∧ (reportOpened c s).clock = s.clock ∧ (reportOpened c
    s).period = s.period ∧ (reportOpened c s).profile = s.profile ∧ (reportOpened c s).fills =
    s.fills ∧ (reportOpened c s).table = s.table ∧ (reportOpened c s).host = s.host ∧
    (reportOpened c s).restarted = s.restarted ∧ (reportOpened c s).arriving = s.arriving ∧
    (reportOpened c s).draws = s.draws ∧ (reportOpened c s).pending = s.pending := by
  simp only [reportOpened]; repeat' split
  all_goals simp

@[simp] theorem reportClosed_frame (c : Column) :
    (reportClosed c s).now = s.now ∧ (reportClosed c s).clock = s.clock ∧ (reportClosed c
    s).period = s.period ∧ (reportClosed c s).profile = s.profile ∧ (reportClosed c s).host =
    s.host ∧ (reportClosed c s).reader = s.reader ∧ (reportClosed c s).restarted = s.restarted ∧
    (reportClosed c s).arriving = s.arriving ∧ (reportClosed c s).draws = s.draws ∧ (reportClosed
    c s).pending = s.pending := by
  simp [reportClosed]

@[simp] theorem rereadHatch_frame (c : Column) :
    (rereadHatch c s).now = s.now ∧ (rereadHatch c s).clock = s.clock ∧ (rereadHatch c s).period =
    s.period ∧ (rereadHatch c s).profile = s.profile ∧ (rereadHatch c s).fills = s.fills ∧
    (rereadHatch c s).table = s.table ∧ (rereadHatch c s).host = s.host ∧ (rereadHatch c
    s).restarted = s.restarted ∧ (rereadHatch c s).arriving = s.arriving ∧ (rereadHatch c s).draws
    = s.draws ∧ (rereadHatch c s).pending = s.pending := by
  simp only [rereadHatch]; repeat' split
  all_goals simp

end Sys2Proof.Machine
end

