-- ==== Sys2Proof/Laws/Columns.lean ====
section
/-! SUPPORT. Columns: for each shared operation of one column, what it leaves of every other column. -/

namespace Sys2Proof.Machine

open Sys2Proof

variable (s : State)

theorem sendVerdict_other (c : Column) (v : VerdictCode) (m : Option Nat) (r : Option Column) {other : Column} (h : other ≠ c) :
    (sendVerdict c v m r s).access[other.val] = s.access[other.val] := by
  simp only [sendVerdict]; repeat' split
  all_goals simp [State.modAccess_other, h]

theorem takeFault_other (c : Column) (r : Reason) {other : Column} (h : other ≠ c) :
    (takeFault c r s).sups[other.val] = s.sups[other.val] := by
  simp only [takeFault]; repeat' split
  all_goals simp [State.modSup_other, h]

theorem startTravel_other (c : Column) (l : LatchState) (d : Drive) {other : Column} (h : other ≠ c) :
    (startTravel c l d s).sups[other.val] = s.sups[other.val] := by
  simp [startTravel, State.modSup_other, h]

theorem failLatch_other (c : Column) {other : Column} (h : other ≠ c) :
    (failLatch c s).sups[other.val] = s.sups[other.val] := by
  simp [failLatch, takeFault_other, State.modSup_other, h]

theorem releaseRequest_other (c : Column) {other : Column} (h : other ≠ c) :
    (releaseRequest c s).sups[other.val] = s.sups[other.val] := by
  simp only [releaseRequest]; repeat' split
  all_goals simp [startTravel_other, failLatch_other, h]

theorem homeRequest_other (c : Column) {other : Column} (h : other ≠ c) :
    (homeRequest c s).sups[other.val] = s.sups[other.val] := by
  simp only [homeRequest]; repeat' split
  all_goals simp [startTravel_other, State.modSup_other, h]

theorem withdrawPermit_other (c : Column) {other : Column} (h : other ≠ c) :
    (withdrawPermit c s).sups[other.val] = s.sups[other.val] := by
  simp [withdrawPermit, State.modSup_other, h]

theorem takeInput_other (c : Column) (i : Input) (b : Bool) {other : Column} (h : other ≠ c) :
    (takeInput c i b s).sups[other.val] = s.sups[other.val] := by
  simp [takeInput, State.modSup_other, h]

theorem recomputeBand_other (c : Column) {other : Column} (h : other ≠ c) :
    (recomputeBand c s).fills[other.val] = s.fills[other.val] := by
  simp [recomputeBand, State.modFill_other, h]

theorem trackSuccess_other (c : Column) (n : Nat) {other : Column} (h : other ≠ c) :
    (trackSuccess c n s).fills[other.val] = s.fills[other.val] := by
  simp [trackSuccess, recomputeBand_other, State.modFill_other, h]

theorem countFailure_other (c : Column) {other : Column} (h : other ≠ c) :
    (countFailure c s).fills[other.val] = s.fills[other.val] := by
  simp only [countFailure]; repeat' split
  all_goals simp [State.modFill_other, h]

theorem trackEmptied_other (c : Column) {other : Column} (h : other ≠ c) :
    (trackEmptied c s).fills[other.val] = s.fills[other.val] := by
  simp [trackEmptied, recomputeBand_other, State.modFill_other, h]

theorem trackDeposit_other (c : Column) {other : Column} (h : other ≠ c) :
    (trackDeposit c s).fills[other.val] = s.fills[other.val] := by
  simp only [trackDeposit]; repeat' split
  all_goals simp [recomputeBand_other, State.modFill_other, h]

theorem arriveLocked_other (c : Column) {other : Column} (h : other ≠ c) :
    (arriveLocked c s).access[other.val] = s.access[other.val] := by
  simp [arriveLocked, State.modAccess_other, h]

theorem goHoming_other (c : Column) {other : Column} (h : other ≠ c) :
    (goHoming c s).sups[other.val] = s.sups[other.val] ∧ (goHoming c s).access[other.val] =
    s.access[other.val] := by
  simp only [goHoming]; repeat' split
  all_goals simp [homeRequest_other, arriveLocked_other, State.modAccess_other, h]

theorem cutGrant_other (c : Column) (v : VerdictCode) {other : Column} (h : other ≠ c) :
    (cutGrant c v s).sups[other.val] = s.sups[other.val] ∧ (cutGrant c v s).access[other.val] =
    s.access[other.val] := by
  simp [cutGrant, sendVerdict_other, goHoming_other, h]

theorem releaseFailed_other (c : Column) {other : Column} (h : other ≠ c) :
    (releaseFailed c s).access[other.val] = s.access[other.val] := by
  simp [releaseFailed, sendVerdict_other, arriveLocked_other, State.modAccess_other, h]

theorem leaveLocked_other (c : Column) (a : AccessState) {other : Column} (h : other ≠ c) :
    (leaveLocked c a s).access[other.val] = s.access[other.val] := by
  simp [leaveLocked, State.modAccess_other, h]

theorem makeGrant_other (c : Column) (n : CardNumber) (f : Found) {other : Column} (h : other ≠ c) :
    (makeGrant c n f s).sups[other.val] = s.sups[other.val] ∧ (makeGrant c n f
    s).access[other.val] = s.access[other.val] := by
  simp only [makeGrant]; repeat' split
  all_goals simp [releaseRequest_other, releaseFailed_other, leaveLocked_other, State.modAccess_other, h]

theorem sendGrantVerdict_other (c : Column) {other : Column} (h : other ≠ c) :
    (sendGrantVerdict c s).access[other.val] = s.access[other.val] := by
  cases h0 : s.access[c.val].context <;> simp [sendGrantVerdict, h0]
  split <;> simp [sendVerdict_other, h]

theorem accessReleased_other (c : Column) {other : Column} (h : other ≠ c) :
    (accessReleased c s).sups[other.val] = s.sups[other.val] ∧ (accessReleased c
    s).access[other.val] = s.access[other.val] := by
  cases h0 : s.access[c.val].state <;> simp [accessReleased, h0]
  split <;> simp [cutGrant_other, sendGrantVerdict_other, State.modAccess_other, h]

theorem accessHome_other (c : Column) {other : Column} (h : other ≠ c) :
    (accessHome c s).access[other.val] = s.access[other.val] := by
  cases h0 : s.access[c.val].state <;>
    simp [accessHome, h0, arriveLocked_other, h]

theorem accessFailed_other (c : Column) {other : Column} (h : other ≠ c) :
    (accessFailed c s).access[other.val] = s.access[other.val] := by
  cases h0 : s.access[c.val].state <;>
    simp [accessFailed, h0, arriveLocked_other, releaseFailed_other, h]

theorem accessReport_other (c : Column) (r : Option LatchReport) {other : Column} (h : other ≠ c) :
    (accessReport c r s).sups[other.val] = s.sups[other.val] ∧ (accessReport c r
    s).access[other.val] = s.access[other.val] := by
  simp only [accessReport]; repeat' split
  all_goals simp [accessReleased_other, accessHome_other, accessFailed_other, h]

theorem openUnderGrant_other (c : Column) {other : Column} (h : other ≠ c) :
    (openUnderGrant c s).access[other.val] = s.access[other.val] := by
  simp [openUnderGrant, State.modAccess_other, h]

theorem accessOpened_other (c : Column) {other : Column} (h : other ≠ c) :
    (accessOpened c s).sups[other.val] = s.sups[other.val] ∧ (accessOpened c s).access[other.val]
    = s.access[other.val] := by
  cases h0 : s.access[c.val].state <;> simp [accessOpened, h0]
  all_goals first
    | (split <;> simp [takeFault_other, State.modAccess_other, h])
    | simp [takeFault_other, sendGrantVerdict_other, openUnderGrant_other, State.modAccess_other, h]

theorem countInsertion_other (c : Column) {other : Column} (h : other ≠ c) :
    (countInsertion c s).access[other.val] = s.access[other.val] := by
  simp [countInsertion, State.modAccess_other, h]

theorem settleOpened_other (c : Column) (g : GrantContext) (i j : Bool) {other : Column} (h : other ≠ c) :
    (settleOpened c g i j s).access[other.val] = s.access[other.val] ∧ (settleOpened c g i j
    s).fills[other.val] = s.fills[other.val] := by
  simp only [settleOpened]; repeat' split
  all_goals simp [trackDeposit_other, countInsertion_other, h]

theorem accessClosed_other (c : Column) {other : Column} (h : other ≠ c) :
    (accessClosed c s).sups[other.val] = s.sups[other.val] ∧ (accessClosed c s).access[other.val]
    = s.access[other.val] ∧ (accessClosed c s).fills[other.val] = s.fills[other.val] := by
  cases h0 : s.access[c.val].state <;> cases h1 : s.access[c.val].context <;>
    simp [accessClosed, h0, h1, goHoming_other, settleOpened_other, h]

theorem drainRequest_other (c : Column) {other : Column} (h : other ≠ c) :
    (drainRequest c s).sups[other.val] = s.sups[other.val] ∧ (drainRequest c s).access[other.val]
    = s.access[other.val] := by
  cases h0 : s.access[c.val].state <;>
    simp [drainRequest, h0, cutGrant_other, State.modAccess_other, h]

theorem endDrain_other (c : Column) {other : Column} (h : other ≠ c) :
    (endDrain c s).access[other.val] = s.access[other.val] := by
  simp only [endDrain]; repeat' split
  all_goals simp [State.modAccess_other, h]

theorem accessLifted_other (c : Column) {other : Column} (h : other ≠ c) :
    (accessLifted c s).sups[other.val] = s.sups[other.val] ∧ (accessLifted c s).access[other.val]
    = s.access[other.val] ∧ (accessLifted c s).fills[other.val] = s.fills[other.val] := by
  cases h0 : s.access[c.val].state <;> cases h1 : s.access[c.val].context <;>
    simp [accessLifted, h0, h1, goHoming_other, cutGrant_other, settleOpened_other, State.modAccess_other, h]

theorem roundLocked_other (c : Column) {other : Column} (h : other ≠ c) :
    (roundLocked c s).sups[other.val] = s.sups[other.val] := by
  simp only [roundLocked]; repeat' split
  all_goals simp [takeFault_other, State.modSup_other, h]

theorem deliverLocked_other (c : Column) {other : Column} (h : other ≠ c) :
    (deliverLocked c s).sups[other.val] = s.sups[other.val] ∧ (deliverLocked c
    s).access[other.val] = s.access[other.val] := by
  simp only [deliverLocked]; repeat' split
  all_goals simp [roundLocked_other, State.modAccess_other, h]

theorem roundOpened_other (c : Column) {other : Column} (h : other ≠ c) :
    (roundOpened c s).sups[other.val] = s.sups[other.val] := by
  simp only [roundOpened]; repeat' split
  all_goals simp [withdrawPermit_other, h]

theorem roundLiftIn_other (c : Column) {other : Column} (h : other ≠ c) :
    (roundLiftIn c s).sups[other.val] = s.sups[other.val] := by
  simp only [roundLiftIn]; repeat' split
  all_goals simp [withdrawPermit_other, h]

theorem roundLifted_other (c : Column) {other : Column} (h : other ≠ c) :
    (roundLifted c s).access[other.val] = s.access[other.val] := by
  simp only [roundLifted]; repeat' split
  all_goals simp [endDrain_other, h]

theorem reportOpened_other (c : Column) {other : Column} (h : other ≠ c) :
    (reportOpened c s).sups[other.val] = s.sups[other.val] ∧ (reportOpened c s).access[other.val]
    = s.access[other.val] := by
  simp only [reportOpened]; repeat' split
  all_goals simp [takeFault_other, accessOpened_other, deliverLocked_other, roundOpened_other, h]

theorem reportClosed_other (c : Column) {other : Column} (h : other ≠ c) :
    (reportClosed c s).sups[other.val] = s.sups[other.val] ∧ (reportClosed c s).access[other.val]
    = s.access[other.val] ∧ (reportClosed c s).fills[other.val] = s.fills[other.val] := by
  simp [reportClosed, accessClosed_other, deliverLocked_other, h]

theorem rereadHatch_other (c : Column) {other : Column} (h : other ≠ c) :
    (rereadHatch c s).sups[other.val] = s.sups[other.val] ∧ (rereadHatch c s).access[other.val] =
    s.access[other.val] := by
  simp only [rereadHatch]; repeat' split
  all_goals simp [reportOpened_other, State.modSup_other, h]

end Sys2Proof.Machine
end

