-- ==== Sys2Proof/Laws/Ops.lean ====
section
/-! SUPPORT. Ops: what the shared operations answer, each said once: the request in hand, the time base, the faults, the forced queue, the engine's choice, the manifest, the tick, received frames. -/

namespace Sys2Proof.Machine

open Sys2Proof

/-! ### A request (R162) -/

/-- A frame taken with the link free is served and answered. -/
theorem serve_idle (kind : Byte) (act : State → State × List Byte) (s : State)
    (h : s.host.inHand = none) :
    serve kind act s = putInHand kind (act (hostFrameEnds s)).2 (act (hostFrameEnds s)).1 := by
  simp [serve, h]

/-- A frame taken with a request in hand is discarded and counted, whatever it asks. -/
theorem serve_busy (kind : Byte) (act : State → State × List Byte) (s : State)
    (h : s.host.inHand.isSome = true) :
    serve kind act s = countLinkError (hostFrameEnds s) := by
  simp [serve, h]

/-- The reply of every kind but RESTART's is in hand until it has been sent. -/
theorem putInHand_plain (kind : Byte) (body : List Byte) (s : State) (h : kind ≠ 0x83) :
    putInHand kind body s =
      { s with host := { s.host with inHand := some ⟨⟨kind, body⟩, false, false⟩ } } := by
  have h' : ¬kind = 131#8 := h
  simp [putInHand, h']

/-- A request that changes nothing leaves the state answered. -/
theorem putInHand_hostFrameEnds (kind : Byte) (body : List Byte) (s : State) (h : kind ≠ 0x83) :
    putInHand kind body (hostFrameEnds s) = s.answered kind body := by
  rw [putInHand_plain kind body _ h]; rfl

/-- A served request keeps whatever its action keeps of the state beside the link. -/
theorem serve_keeps {α : Type} (view : State → α) (kind : Byte)
    (act : State → State × List Byte) (s : State)
    (link : ∀ u h, view { u with host := h } = view u)
    (h : ∀ u, view u = view s → view (act u).1 = view u) :
    view (serve kind act s) = view s := by
  unfold serve
  split
  · simp only [countLinkError, hostFrameEnds, link]
  · simp only [putInHand, link]
    rw [h (hostFrameEnds s) (link s _)]
    exact link s _

/-! ### The time base (R3; log 2) -/

/-- The time base at the end of a hold. -/
theorem reach_hold (f : Filter) (s : State) :
    reach (f.due s.now) s =
      { s with now := match f.hold with
          | none => s.now
          | some t => max s.now (t + 20) } := by
  cases h : f.hold <;> simp [reach, Filter.due, h]

/-- Two changes of one column's record are one. -/
theorem modSup_modSup (s : State) (c : Column) (f g : Supervisor → Supervisor) :
    (s.modSup c f).modSup c g = s.modSup c (g ∘ f) := by
  simp [State.modSup]

/-- Two changes of one machine are one. -/
theorem modAccess_modAccess (s : State) (c : Column) (f g : Access → Access) :
    (s.modAccess c f).modAccess c g = s.modAccess c (g ∘ f) := by
  simp [State.modAccess]

/-! ### Faults (R2) -/

/-- A DISABLED column takes no fault. -/
theorem takeFault_disabled (c : Column) (r : Reason) (s : State)
    (h : s.sups[c].condition = .disabled) : takeFault c r s = s := by
  have h' : s.sups[c.val].condition = .disabled := h
  simp [takeFault, h']

/-- A fault on any other column settles its record and raises its alert. -/
theorem takeFault_enabled (c : Column) (r : Reason) (k : AlertKind) (s : State)
    (h : s.sups[c].condition ≠ .disabled) (hk : r.alert = some k) :
    takeFault c r s = raiseAlert k (some c) (s.modSup c (Supervisor.fault r)) := by
  have h' : ¬s.sups[c.val].condition = .disabled := h
  simp [takeFault, h', hk, raiseIf]

/-- A fault touches the condition and the reason alone. -/
theorem Supervisor.fault_frame (r : Reason) (p : Supervisor) :
    (p.fault r).latch = p.latch ∧ (p.fault r).drive = p.drive ∧ (p.fault r).travel = p.travel ∧
      (p.fault r).hatch = p.hatch ∧ (p.fault r).lift = p.lift ∧
      (p.fault r).homeContact = p.homeContact ∧ (p.fault r).releasedContact = p.releasedContact ∧
      (p.fault r).hatchOpen = p.hatchOpen ∧ (p.fault r).permit = p.permit := by
  unfold Supervisor.fault
  split <;> simp

/-- A DISABLED column stays so, and no other becomes so, by a fault. -/
theorem Supervisor.fault_disabled (r : Reason) (p : Supervisor) :
    (p.fault r).condition = .disabled ↔ p.condition = .disabled := by
  unfold Supervisor.fault
  split <;> simp_all

/-! ### The forced queue (R92, R93) -/

/-- Joining the queue keeps each column in it at most once. -/
theorem enqueue_nodup (c : Column) (r : Ranging) (h : r.queue.Nodup) : (r.enqueue c).queue.Nodup := by
  unfold Ranging.enqueue
  split
  · exact h
  · rename_i hc
    have hc' : c ∉ r.queue := by simpa using hc
    simp only [List.nodup_append, h, true_and]
    refine ⟨by simp, ?_⟩
    intro a ha b hb
    simp only [List.mem_singleton] at hb
    subst hb
    exact fun e => hc' (e ▸ ha)

/-- The front request keeps each column in the queue at most once. -/
theorem front_nodup (c : Column) (r : Ranging) (h : r.queue.Nodup) : (r.front c).queue.Nodup := by
  simp only [Ranging.front, List.nodup_cons]
  exact ⟨fun hc => (List.Nodup.mem_erase_iff h).mp hc |>.1 rfl, h.erase c⟩

/-! ### The engine's choice (R89, R91) -/

/-- A burst's end leaves no burst. -/
theorem endBurst_burst (s : State) : (endBurst s).ranging.burst = none := by
  simp only [endBurst]
  split
  · assumption
  · simp only [advancePointer]
    repeat' split
    all_goals rfl

/-- No burst on a column is left by its abandonment. -/
theorem abandonBurst_burst (c : Column) (s : State) :
    ∀ b, (abandonBurst c s).ranging.burst = some b → b.column ≠ c := by
  intro b h
  simp only [abandonBurst] at h
  split at h
  · simp_all
  · split at h
    · split at h <;>
        simp [frontRequest, enqueue, Ranging.front, Ranging.enqueue, endBurst_burst, apply_ite] at h
    · simp_all

/-- Eligibility looks at nothing of the engine. -/
theorem eligible_ranging (s : State) (r : Ranging) :
    eligible { s with ranging := r } = eligible s := rfl

/-- Eligibility looks at the column's supervisor, its access state and the round. -/
theorem eligible_congr (s t : State) (hs : t.sups = s.sups) (ha : t.access = s.access)
    (hr : t.round = s.round) : eligible t = eligible s := by
  funext c
  simp only [eligible, hs, ha, hr]

/-- A burst begun by the scan is on an eligible column. -/
theorem scanWalk_burst (n : Nat) (s : State) (h : s.ranging.burst = none) :
    ∀ b, (scanWalk n s).ranging.burst = some b → eligible s b.column = true := by
  induction n generalizing s with
  | zero => intro b hb; simp [scanWalk, h] at hb
  | succ n ih =>
    intro b hb
    simp only [scanWalk] at hb
    split at hb
    · rename_i he
      simp only [startBurst, Option.some.injEq] at hb
      subst hb
      simp only [Bool.and_eq_true] at he
      exact he.1
    · have step : ∀ u : State, u.sups = s.sups → u.access = s.access → u.round = s.round →
          u.ranging.burst = none →
          (if (advancePointer u).ranging.pause.isSome = true then advancePointer u
            else scanWalk n (advancePointer u)).ranging.burst = some b →
          eligible s b.column = true := by
        intro u h1 h2 h3 h4 hu
        have hnone : (advancePointer u).ranging.burst = none := by
          simp only [advancePointer]
          split <;> simp [h4]
        split at hu
        · simp [hnone] at hu
        · rw [← eligible_congr s (advancePointer u) (by simp [h1]) (by simp [h2]) (by simp [h3])]
          exact ih _ hnone b hu
      split at hb
      · exact step (lowerSkip s.ranging.pointer s) rfl rfl rfl h hb
      · exact step s rfl rfl rfl h hb

/-- A burst in progress after the engine's choice was in progress before it or is on an eligible
column. -/
theorem chooseNext_burst (s : State) :
    ∀ b, (chooseNext s).ranging.burst = some b →
      s.ranging.burst = some b ∨ eligible s b.column = true := by
  intro b hb
  simp only [chooseNext] at hb
  split at hb
  · exact Or.inl hb
  · rename_i hn
    have hnone : s.ranging.burst = none := by simpa using hn
    right
    split at hb
    · rename_i c hc
      simp only [startBurst, Option.some.injEq] at hb
      subst hb
      exact List.find?_some hc
    · split at hb
      · simp [hnone] at hb
      · exact scanWalk_burst 12 s hnone b hb

/-- The scan pointer at its last column begins the pause, and before it moves on by one. -/
theorem advancePointer_pointer (s : State) (h : s.ranging.pause = none) :
    (advancePointer s).ranging.pause.isSome = true ∨
      ((advancePointer s).ranging.pause = none ∧
        (advancePointer s).ranging.pointer.val = s.ranging.pointer.val + 1) := by
  unfold advancePointer
  split
  · simp
  · rename_i hp
    right
    refine ⟨h, ?_⟩
    have : s.ranging.pointer.val ≠ 11 := fun e => hp (Fin.ext e)
    have h2 := s.ranging.pointer.isLt
    simp only [Fin.val_add]
    show (s.ranging.pointer.val + 1) % 12 = _
    omega

/-- A scan with enough steps left ends in a burst or in the pause. -/
theorem scanWalk_ends (n : Nat) (s : State) (h : s.ranging.pause = none)
    (hn : 12 ≤ n + s.ranging.pointer.val) :
    (scanWalk n s).ranging.burst.isSome = true ∨ (scanWalk n s).ranging.pause.isSome = true := by
  induction n generalizing s with
  | zero => have := s.ranging.pointer.isLt; omega
  | succ n ih =>
    simp only [scanWalk]
    split
    · left; rfl
    · have step : ∀ u : State, u.ranging.pause = none →
          u.ranging.pointer = s.ranging.pointer →
          ((if (advancePointer u).ranging.pause.isSome = true then advancePointer u
            else scanWalk n (advancePointer u)).ranging.burst.isSome = true ∨
          (if (advancePointer u).ranging.pause.isSome = true then advancePointer u
            else scanWalk n (advancePointer u)).ranging.pause.isSome = true) := by
        intro u hu hp
        rcases advancePointer_pointer u hu with h1 | ⟨h1, h2⟩
        · simp [h1]
        · simp only [h1, Option.isSome_none, Bool.false_eq_true, if_false]
          apply ih _ h1
          rw [h2, hp]
          omega
      split
      · exact step (lowerSkip s.ranging.pointer s) h rfl
      · exact step s h rfl

/-- A choice leaves none due: it begins a burst, or the pause runs. -/
theorem chooseNext_ends (s : State) : (chooseNext s).ranging.choiceDue = false := by
  have key : (chooseNext s).ranging.burst.isSome = true ∨
      (chooseNext s).ranging.pause.isSome = true := by
    unfold chooseNext
    split
    · left; assumption
    · split
      · left; rfl
      · split
        · right; assumption
        · rename_i hp
          exact scanWalk_ends 12 s (by simpa using hp) (by omega)
  unfold Ranging.choiceDue
  rcases key with h | h <;> cases hb : (chooseNext s).ranging.burst <;>
    cases hp : (chooseNext s).ranging.pause <;> simp_all

/-- A scan step measures an eligible column at the pointer whose skip counter is 0. -/
theorem scanWalk_measures (n : Nat) (s : State) (he : eligible s s.ranging.pointer = true)
    (hs : s.ranging.heads[s.ranging.pointer].skip = 0) :
    scanWalk (n + 1) s = startBurst s.ranging.pointer .scan (reloadSkip s.ranging.pointer s) := by
  rw [scanWalk]
  exact if_pos (by rw [he, hs]; rfl)

/-- A busy engine does not choose. -/
theorem chooseNext_busy (s : State) (h : s.ranging.burst.isSome = true) : chooseNext s = s := if_pos h

/-- Without forced work the free engine takes a scan step, the pause being stopped. -/
theorem chooseNext_scan (s : State) (hb : s.ranging.burst = none) (hp : s.ranging.pause = none)
    (hq : ∀ k ∈ s.ranging.queue, eligible s k = false) : chooseNext s = scanWalk 12 s := by
  have hf : s.ranging.queue.find? (eligible s) = none :=
    List.find?_eq_none.mpr fun k hk => by simp [hq k hk]
  rw [chooseNext, hb, hf, hp]
  exact if_neg (by simp)

/-- No choice is due exactly where the engine is busy or pauses. -/
theorem choiceDue_iff (s : State) : s.ranging.choiceDue = false ↔ s.chosen := by
  unfold Ranging.choiceDue State.chosen
  cases s.ranging.burst <;> cases s.ranging.pause <;> simp

/-- A choice leaves the engine busy or pausing. -/
theorem chooseNext_chosen (s : State) : (chooseNext s).chosen :=
  (choiceDue_iff _).mp (chooseNext_ends s)

/-! ### An event (R107; log 7) -/

/-- With no choice due a state is ready as it stands. -/
theorem ready_chosen (s : State) (h : s.chosen) : s.ready = s := by
  simp [State.ready, (choiceDue_iff s).mpr h]

/-- A choice still due is made. -/
theorem ready_due (s : State) (h : ¬s.chosen) : s.ready = chooseNext s := by
  have h' : s.ranging.choiceDue = true := by
    cases hc : s.ranging.choiceDue with
    | true => rfl
    | false => exact absurd ((choiceDue_iff s).mp hc) h
  simp [State.ready, h']

/-- No choice is due in a ready state. -/
theorem ready_isChosen (s : State) : s.ready.chosen := by
  by_cases h : s.chosen
  · rwa [ready_chosen s h]
  · rw [ready_due s h]; exact chooseNext_chosen s

/-- An event with no choice due is its effect alone. -/
theorem event_chosen (f : State → State) (s : State) (h : s.chosen) : event f s = .next (f s) := by
  rw [event, ready_chosen s h]

/-- An event is the same event after the choice that is due. -/
theorem event_due (f : State → State) (s : State) (h : ¬s.chosen) :
    event f s = event f (chooseNext s) := by
  rw [event, event, ready_due s h, ready_chosen _ (chooseNext_chosen s)]

/-- An event keeps whatever its effect and the engine's choice keep. -/
theorem event_keeps {α : Type} (view : State → α) (f : State → State) (s t : State)
    (choice : view (chooseNext s) = view s) (effect : ∀ u, view (f u) = view u)
    (h : event f s = .next t) : view t = view s := by
  cases h
  rw [effect]
  by_cases hc : s.chosen
  · rw [ready_chosen s hc]
  · rw [ready_due s hc, choice]

/-- A ready state has no choice left to make. -/
@[simp] theorem ready_ready (s : State) : s.ready.ready = s.ready := ready_chosen _ (ready_isChosen s)

/-- Every command but a full reset is an event: it comes after the choice that is due. -/
theorem exec_ready (c : Instr) (s : State) (h : c ≠ .fullReset) : exec c s = exec c s.ready := by
  cases c <;> first
    | exact absurd rfl h
    | simp only [
        exec, execIdentify, execStatus, execRestart, execSoftRestart, execTimeSet, execPeriodSet,
        execProfileWrite, execProfileRead, execAlertFetch, execAlertFloor, execTableWrite,
        execTableData, execTableVerify, execTableErase, execTableSum, execTablePin, execTableRelease,
        execCardQuery, execCardModify, execColumnRead, execColumnService, execColumnWithdraw,
        execColumnMeasure, execRoundOpen, execRoundClaim, execRoundSkip, execRoundKeep,
        execRoundClose, execRoundRead, execJournalRead, execJournalRelease, execCheckError,
        execUnknownKind, execFrameWhileRequestInHand, execFrameDiscard, execInterbyteGap,
        execReplySent, execTransferWatchExpiry, execPresent, execReaderFrameRejected, execVerdictSent,
        execClockAdvance, execInputLevelChange, execHatchOpened, execHatchClosed, execLiftOut,
        execLiftIn, execLatchContactChange, execLatchTravelTimeout, execGrantTimerExpiry,
        execOpenTimerExpiry, execLatchRestExpiry, execPing, execEcho, execNoEcho, execScanPauseExpiry,
        execSupervisionTimerExpiry, execSettleTimerExpiry, execStartMark, event, ready_ready]

/-! ### The manifest (R110, R111) -/

/-- A change of one entry keeps the columns listed. -/
theorem modEntry_columns (c : Column) (f : ManifestEntry → ManifestEntry) (r : Round)
    (h : ∀ e, (f e).column = e.column) :
    (r.modEntry c f).manifest.map (·.column) = r.manifest.map (·.column) := by
  simp only [Round.modEntry, List.map_map]
  apply List.map_congr_left
  intro e _
  simp only [Function.comp]
  split <;> simp [h]

/-- An entry made DONE keeps the columns listed. -/
theorem finishEntry_columns (c : Column) (o : EntryOutcome) (f : Option FailReason)
    (after : Option Nat) (residue : Bool) (s : State) :
    (finishEntry c o f after residue s).round.manifest.map (·.column) =
      s.round.manifest.map (·.column) := by
  have key := modEntry_columns c (ManifestEntry.finish o f after residue) s.round fun _ => rfl
  simp only [finishEntry]
  split
  · rfl
  · simp only [appendRecord_frame]
    split <;> simpa [Round.endActive] using key

/-- Entries made DONE keep the columns listed. -/
theorem finishAll_columns (o : EntryOutcome) (cs : List Column) (s : State) :
    (finishAll o cs s).round.manifest.map (·.column) = s.round.manifest.map (·.column) := by
  unfold finishAll
  induction cs generalizing s with
  | nil => rfl
  | cons c cs ih => simp only [List.foldl_cons, ih, finishEntry_columns]

/-! ### Alerts (R152) -/

/-- No level reaches 8. -/
theorem AlertKind.level_le (k : AlertKind) : k.level ≤ 7 := by cases k <;> decide

/-- The lowest level is at most every entry's. -/
theorem lowestLevel_le (l : List AlertEntry) : ∀ e ∈ l, lowestLevel l ≤ e.kind.level := by
  induction l with
  | nil => simp
  | cons x l ih =>
    intro e he
    simp only [lowestLevel, List.foldr_cons]
    rcases List.mem_cons.mp he with rfl | he
    · exact Nat.min_le_left _ _
    · exact Nat.le_trans (Nat.min_le_right _ _) (ih e he)

/-- A level at most every entry's is at most the lowest. -/
theorem le_lowestLevel (l : List AlertEntry) (v : Nat) (hv : v ≤ 8)
    (h : ∀ e ∈ l, v ≤ e.kind.level) : v ≤ lowestLevel l := by
  induction l with
  | nil => exact hv
  | cons x l ih =>
    simp only [lowestLevel, List.foldr_cons]
    exact Nat.le_min.mpr
      ⟨h x (List.mem_cons_self ..), ih fun e he => h e (List.mem_cons_of_mem _ he)⟩

/-! ### Due events (log 18) -/

/-- A command is due by a moment exactly when the moment has come. -/
theorem mem_whenDue (now : Nat) (due : Option Nat) (i j : Instr) :
    j ∈ whenDue now due i ↔ j = i ∧ ∃ t, due = some t ∧ t ≤ now := by
  cases due with
  | none => simp [whenDue]
  | some t => by_cases h : t ≤ now <;> simp [whenDue, h]

/-- Whatever the draw, the event picked is one of the events due. -/
theorem pickDue_mem (draw : Nat) (l : List Instr) (i : Instr) (h : pickDue draw l = some i) : i ∈ l :=
  List.mem_of_getElem? h

/-- Some event is picked exactly when one is due. -/
theorem pickDue_none (draw : Nat) (l : List Instr) : pickDue draw l = none ↔ l = [] := by
  unfold pickDue
  rw [List.getElem?_eq_none_iff]
  cases l with
  | nil => simp
  | cons x l =>
    have h := Nat.mod_lt draw (Nat.succ_pos l.length)
    simp only [List.length_cons, reduceCtorEq, iff_false, Nat.not_le]
    exact h

/-- A line's gap is not due, or it is the one event, its moment having come (R161). -/
theorem gapDue_cases (s : State) (line : Line) :
    gapDue s line = [] ∨
      (gapDue s line = [.interbyteGap line] ∧ ∃ r, s.reception line = some r ∧ r.gap ≤ s.now) := by
  unfold gapDue
  cases hr : s.reception line with
  | none => exact .inl rfl
  | some r =>
    simp only [Option.map_some, whenDue]
    split
    · rename_i h
      exact .inr ⟨rfl, r, rfl, h⟩
    · exact .inl rfl

/-- All that the tick can do: the choice due, what a line brings or the gap before it, one of the events
due, or a millisecond. -/
theorem tick_cases (s : State) :
    (s.ranging.choiceDue = true ∧ tick s = .next (chooseNext s)) ∨
      (s.ranging.choiceDue = false ∧ ∃ line h rest, s.arriving = (line, h) :: rest ∧
        ((gapDue s line = [] ∧ tick s = arrive line h { s with arriving := rest }) ∨
          (∃ r, s.reception line = some r ∧ r.gap ≤ s.now ∧ tick s = exec (.interbyteGap line) s))) ∨
      (s.ranging.choiceDue = false ∧ s.arriving = [] ∧ dueEvents s = [] ∧
        tick s = .next { s with now := s.now + 1 }) ∨
      (s.ranging.choiceDue = false ∧ s.arriving = [] ∧
        ∃ i ∈ dueEvents s, tick s = takeDue i { s with draws := s.draws + 1 }) := by
  unfold tick
  split
  · exact .inl ⟨by assumption, rfl⟩
  · rename_i hc
    right
    have hc' : s.ranging.choiceDue = false := by simpa using hc
    split
    · rename_i line h rest ha
      refine .inl ⟨hc', line, h, rest, ha, ?_⟩
      rcases gapDue_cases s line with hg | ⟨hg, r, hr, hd⟩
      · exact .inl ⟨hg, by simp only [hearNext, hg]⟩
      · exact .inr ⟨r, hr, hd, by simp only [hearNext, hg]⟩
    · rename_i ha
      right
      split
      · rename_i h
        exact .inl ⟨hc', ha, (pickDue_none _ _).mp h, rfl⟩
      · rename_i i h
        exact .inr ⟨hc', ha, i, pickDue_mem _ _ _ h, rfl⟩

/-! ### Received frames (R160, R161) -/

/-- A request is what its own kind, end mark and body spell. -/
theorem requestOf_request (c : Instr) (kind : Byte) (body : List Byte)
    (h : c.request = some (kind, body)) : requestOf kind c.moreFollows body = c := by
  cases c <;> simp only [Instr.request, Option.some.injEq, Prod.mk.injEq, reduceCtorEq] at h <;>
    (obtain ⟨rfl, rfl⟩ := h; rfl)

/-- The kind, body and check bytes of a frame are taken until the length byte's count is reached. -/
theorem hearAll_begun (line : Line) (n : Byte) (begun taken : List Byte) (rest : List Heard)
    (h : begun.length + taken.length ≤ n.toNat + 1) :
    hearAll line (some (n :: taken)) (begun.map Heard.byte ++ rest) =
      hearAll line (some (n :: (taken ++ begun))) rest := by
  induction begun generalizing taken with
  | nil => simp
  | cons b bs ih =>
    have hb : hear line (some (n :: taken)) (.byte b) = (some (n :: (taken ++ [b])), none) := by
      simp only [hear]
      cases taken with
      | nil => rfl
      | cons k ks =>
        have : ks.length < n.toNat := by simp only [List.length_cons] at h; omega
        simp [takeByte, this]
    simp only [List.map_cons, List.cons_append, hearAll, hb, Option.toList_none, List.nil_append]
    rw [ih (taken ++ [b]) (by simp only [List.length_append, List.length_cons, List.length_nil] at h ⊢; omega)]
    simp

/-- What comes of bytes that are brought in two parts is what comes of them in one. -/
theorem hearAll_append (line : Line) (r : Receiver) (a b : List Heard) :
    hearAll line r (a ++ b) = hearAll line r a ++ hearAll line (receiverAfter line r a) b := by
  induction a generalizing r with
  | nil => rfl
  | cons h hs ih => simp only [List.cons_append, hearAll, ih, receiverAfter, List.foldl_cons,
      List.append_assoc]

/-! ### The receiver of a line changed -/

/-- The byte just heard is the last of the frame in reception. -/
@[simp] theorem State.setReceiver_reception (s : State) (line : Line) (r : Receiver) :
    (s.setReceiver line r).reception line = r.map fun bytes => ⟨bytes, s.now⟩ := by cases line <;> rfl

@[simp] theorem State.setReceiver_receiver (s : State) (line : Line) (r : Receiver) :
    (s.setReceiver line r).receiver line = r := by
  cases r <;> simp [State.receiver]

@[simp] theorem State.setReceiver_frame (s : State) (line : Line) (r : Receiver) :
    (s.setReceiver line r).now = s.now ∧ (s.setReceiver line r).clock = s.clock ∧ (s.setReceiver
    line r).period = s.period ∧ (s.setReceiver line r).profile = s.profile ∧ (s.setReceiver line
    r).sups = s.sups ∧ (s.setReceiver line r).access = s.access ∧ (s.setReceiver line r).ranging
    = s.ranging ∧ (s.setReceiver line r).fills = s.fills ∧ (s.setReceiver line r).table =
    s.table ∧ (s.setReceiver line r).round = s.round ∧ (s.setReceiver line r).journal =
    s.journal ∧ (s.setReceiver line r).alerts = s.alerts ∧ (s.setReceiver line r).restarted =
    s.restarted ∧ (s.setReceiver line r).arriving = s.arriving ∧ (s.setReceiver line r).draws =
    s.draws ∧ (s.setReceiver line r).pending = s.pending := by
  cases line <;> simp [State.setReceiver]

end Sys2Proof.Machine
end

