-- ==== Sys2Proof/Laws/PerInstr.lean ====
section
/-! SUPPORT. PerInstr: for each command, that a request's kind is one of R163 and that it is well formed exactly when its body fits a frame. -/

namespace Sys2Proof.Laws.Framed

open Sys2Proof

/-- A request has a kind of R163, and a sender can give it exactly when its body fits a frame (R160). -/
def Statement (i : Instr) : Prop :=
  ∀ kind body, i.request = some (kind, body) →
    requestKinds.contains kind = true ∧ i.wellFormed = bodyFits body

/-- A command with a request's kind and body. -/
theorem of_request {i : Instr} {k : Byte} {b : List Byte} (h : i.request = some (k, b))
    (hk : requestKinds.contains k = true) (hw : i.wellFormed = bodyFits b) : Statement i := by
  intro kind body hr
  rw [h] at hr
  cases hr
  exact ⟨hk, hw⟩

/-- A command that is no request. -/
theorem of_none {i : Instr} (h : i.request = none) : Statement i := by
  intro kind body hr
  rw [h] at hr
  cases hr

theorem identify (body : List Byte) : Statement (.identify body) := of_request rfl (by decide) rfl
theorem status (body : List Byte) : Statement (.status body) := of_request rfl (by decide) rfl
theorem restart (body : List Byte) : Statement (.restart body) := of_request rfl (by decide) rfl
theorem softRestart : Statement .softRestart := of_none rfl
theorem timeSet (body : List Byte) : Statement (.timeSet body) := of_request rfl (by decide) rfl
theorem periodSet (body : List Byte) : Statement (.periodSet body) := of_request rfl (by decide) rfl
theorem profileWrite (body : List Byte) : Statement (.profileWrite body) := of_request rfl (by decide) rfl
theorem profileRead (body : List Byte) : Statement (.profileRead body) := of_request rfl (by decide) rfl
theorem alertFetch (body : List Byte) : Statement (.alertFetch body) := of_request rfl (by decide) rfl
theorem alertFloor (body : List Byte) : Statement (.alertFloor body) := of_request rfl (by decide) rfl
theorem tableWrite (body : List Byte) : Statement (.tableWrite body) := of_request rfl (by decide) rfl
theorem tableData (more : Bool) (body : List Byte) : Statement (.tableData more body) := of_request rfl (by decide) rfl
theorem tableVerify (body : List Byte) : Statement (.tableVerify body) := of_request rfl (by decide) rfl
theorem tableErase (body : List Byte) : Statement (.tableErase body) := of_request rfl (by decide) rfl
theorem tableSum (body : List Byte) : Statement (.tableSum body) := of_request rfl (by decide) rfl
theorem tablePin (body : List Byte) : Statement (.tablePin body) := of_request rfl (by decide) rfl
theorem tableRelease (body : List Byte) : Statement (.tableRelease body) := of_request rfl (by decide) rfl
theorem cardQuery (body : List Byte) : Statement (.cardQuery body) := of_request rfl (by decide) rfl
theorem cardModify (body : List Byte) : Statement (.cardModify body) := of_request rfl (by decide) rfl
theorem columnRead (body : List Byte) : Statement (.columnRead body) := of_request rfl (by decide) rfl
theorem columnService (body : List Byte) : Statement (.columnService body) := of_request rfl (by decide) rfl
theorem columnWithdraw (body : List Byte) : Statement (.columnWithdraw body) := of_request rfl (by decide) rfl
theorem columnMeasure (body : List Byte) : Statement (.columnMeasure body) := of_request rfl (by decide) rfl
theorem roundOpen (body : List Byte) : Statement (.roundOpen body) := of_request rfl (by decide) rfl
theorem roundClaim (body : List Byte) : Statement (.roundClaim body) := of_request rfl (by decide) rfl
theorem roundSkip (body : List Byte) : Statement (.roundSkip body) := of_request rfl (by decide) rfl
theorem roundKeep (body : List Byte) : Statement (.roundKeep body) := of_request rfl (by decide) rfl
theorem roundClose (body : List Byte) : Statement (.roundClose body) := of_request rfl (by decide) rfl
theorem roundRead (body : List Byte) : Statement (.roundRead body) := of_request rfl (by decide) rfl
theorem journalRead (body : List Byte) : Statement (.journalRead body) := of_request rfl (by decide) rfl
theorem journalRelease (body : List Byte) : Statement (.journalRelease body) := of_request rfl (by decide) rfl
theorem checkError : Statement .checkError := of_none rfl
theorem unknownKind (kind : Byte) : Statement (.unknownKind kind) := of_none rfl
theorem frameWhileRequestInHand : Statement .frameWhileRequestInHand := of_none rfl
theorem frameDiscard (line : Line) (cause : DiscardCause) : Statement (.frameDiscard line cause) := of_none rfl
theorem interbyteGap (line : Line) : Statement (.interbyteGap line) := of_none rfl
theorem replySent : Statement .replySent := of_none rfl
theorem transferWatchExpiry : Statement .transferWatchExpiry := of_none rfl
theorem present (column : Column) (card : CardNumber) : Statement (.present column card) := of_none rfl
theorem readerFrameRejected (cause : RejectCause) : Statement (.readerFrameRejected cause) := of_none rfl
theorem verdictSent : Statement .verdictSent := of_none rfl
theorem fullReset : Statement .fullReset := of_none rfl
theorem clockAdvance : Statement .clockAdvance := of_none rfl
theorem inputLevelChange (column : Column) (input : Input) (closed : Bool) : Statement (.inputLevelChange column input closed) := of_none rfl
theorem hatchOpened (column : Column) : Statement (.hatchOpened column) := of_none rfl
theorem hatchClosed (column : Column) : Statement (.hatchClosed column) := of_none rfl
theorem liftOut (column : Column) : Statement (.liftOut column) := of_none rfl
theorem liftIn (column : Column) : Statement (.liftIn column) := of_none rfl
theorem latchContactChange (column : Column) (contact : Contact) (made : Bool) : Statement (.latchContactChange column contact made) := of_none rfl
theorem latchTravelTimeout (column : Column) : Statement (.latchTravelTimeout column) := of_none rfl
theorem grantTimerExpiry (column : Column) : Statement (.grantTimerExpiry column) := of_none rfl
theorem openTimerExpiry (column : Column) : Statement (.openTimerExpiry column) := of_none rfl
theorem latchRestExpiry (column : Column) : Statement (.latchRestExpiry column) := of_none rfl
theorem ping : Statement .ping := of_none rfl
theorem echo (counter : Nat) : Statement (.echo counter) := of_none rfl
theorem noEcho : Statement .noEcho := of_none rfl
theorem scanPauseExpiry : Statement .scanPauseExpiry := of_none rfl
theorem supervisionTimerExpiry : Statement .supervisionTimerExpiry := of_none rfl
theorem settleTimerExpiry : Statement .settleTimerExpiry := of_none rfl
theorem startMark (line : Line) : Statement (.startMark line) := of_none rfl

end Sys2Proof.Laws.Framed
end

