-- ==== Sys2Proof/Tests/Slice0.lean ====
section
/-! SUPPORT. Slice0: the well-formedness smoke, the spec's worked figures on small states, and a witness for the hypotheses of every statement. -/

namespace Sys2Proof.Tests

open Sys2Proof Sys2Proof.Machine

/-! ### Helpers -/

/-- The state a command leaves. -/
def after (c : Instr) (s : State) : State :=
  match exec c s with
  | .next t => t
  | .fault _ => s
  | .refused _ => s

/-- The body of the reply in hand. -/
def reply (s : State) : Option (List Byte) := s.host.inHand.map (·.reply.body)

/-- The part at rest: nothing to measure, the scan pause running. -/
def resting : State := { State.reset with ranging := { Ranging.reset with pause := some 10000 } }

/-- A resident's grant context, or a crew card's. -/
def grantOf (service : Bool) : GrantContext :=
  { card := 88214, cls := if service then .crew else .resident, tariff := 3, fraction := 2,
    period := 412, provisional := false, service := service, hatchOpened := false, late := false,
    openStart := some 1000, remaining := some 3 }

/-- Column 0 in an access state with a grant, one reservation taken. -/
def cycle (st : AccessState) (service : Bool) : State :=
  { resting.modAccess 0 fun a =>
      { a with
        state := st, context := some (grantOf service), grantTimer := some 15000,
        openTimer := some 90000 } with
    journal := { Journal.reset with reservations := 1 } }

/-- A manifest entry of a column. -/
def entry (c : Column) (st : EntryStatus) : ManifestEntry :=
  { column := c, status := st, outcome := none, failReason := none, fillBefore := none,
    fillAfter := none, residue := false }

/-- An OPEN round over columns 0 and 1, its entry of column 0 with a status and a stage. -/
def onRound (st : EntryStatus) (stage : Option Stage) : State :=
  { resting with
    round :=
      { Round.reset with
        state := .open, id := some 5, vehicle := some 9, manifest := [entry 0 st, entry 1 .pending],
        stage := stage, supervision := .counting 300000, settleTimer := some 20000,
        liftStart := some 1000 },
    journal := { Journal.reset with reservations := 2 } }

/-- A used slot. -/
def used (card : CardNumber) (allowance remaining : Nat) (stamp : Option (BitVec 16)) : Entry :=
  { host :=
      { card := card, cls := .resident, fractions := 0b000100, tariff := 3, allowance := allowance,
        blocked := false, restriction := none },
    remaining := remaining, stamp := stamp, uses := 331 }

/-- A table with the given cards in block 12, out of provisional access. -/
def table12 (entries : List Entry) (pinned : Bool) : CardTable :=
  { CardTable.reset with
    blocks := CardTable.reset.blocks.set (12 : Fin 64) { entries := entries, pinned := pinned },
    provisional := false }

/-- The part with one card in block 12. -/
def loaded (pinned : Bool) : State :=
  { resting with table := table12 [used 1044 20 7 (some 412)] pinned, period := 412 }

/-- An open transfer on block 12. -/
def transferring (kind : TransferKind) (declared delivered : Nat) : State :=
  { loaded false with
    host := { HostLink.reset with
      transfer := some
        { kind := kind, block := 12, declared := declared, delivered := delivered, watch := 2000 } } }

/-- A request in hand. -/
def busy : State :=
  { resting with
    host := { HostLink.reset with inHand := some ⟨⟨0x81, [0x00]⟩, false, false⟩ } }

/-- The engine has made its first choice: a SCAN burst on column 0. -/
def scanning : State := chooseNext State.reset

/-- A frame in reception on the host link, its last byte taken at 0, some milliseconds on. -/
def begun (s : State) (now : Nat) : State :=
  { s with now := now, host := { s.host with frame := some ⟨[0x03, 0x05], 0⟩ } }

/-- A RESTART whose reply has gone out. -/
def restarting : State :=
  { resting with
    host := { HostLink.reset with inHand := some ⟨⟨0x83, [0x00]⟩, true, true⟩ } }

/-- An alert entry of column 0. -/
def alert (k : AlertKind) : AlertEntry :=
  { kind := k, column := some 0, count := 1, first := ⟨0, 5⟩, last := ⟨0, 5⟩ }

/-! ### Well-formedness -/

theorem test_wellFormed_body_fits : (Instr.profileWrite (List.replicate 239 0)).wellFormed = true := by
  decide +kernel
theorem test_illFormed_body_of_240 : (Instr.profileWrite (List.replicate 240 0)).wellFormed = false := by
  decide +kernel
theorem test_illFormed_known_kind : (Instr.unknownKind 0x01).wellFormed = false := by decide
theorem test_illFormed_echo_past_window : (Instr.echo 4000).wellFormed = false := by decide

/-! ### Frames and layouts (09) -/

/-- R160's arithmetic on a PERIOD SET reply: start mark A2, length 4, kind 85, OK, period 413. -/
theorem test_reply_frame_bytes :
    (Reply.frame ⟨0x85, [0x00, 0x01, 0x9D]⟩) = [0xA2, 0x04, 0x85, 0x00, 0x01, 0x9D, 0xD9, 0x0D] := by
  decide
/-- R160's example: the bytes of PERIOD SET 413. -/
theorem test_frame_spells_period_set :
    hearAll .host none (([0xA1, 0x03, 0x05, 0x01, 0x9D, 0x5A, 0x0D] : List Byte).map .byte) =
      [.startMark .host, .periodSet [0x01, 0x9D]] := by decide
/-- R160: 0x0C is good for kind 0x11 only, and never on the reader line. -/
theorem test_end_mark_judged_by_kind :
    goodEnd .host 0x11 0x0C = true ∧ goodEnd .host 0x05 0x0C = false ∧
      goodEnd .reader 0x11 0x0C = false := by decide
theorem test_word_spells_nothing : decodeTableWord 8 1 = none := rfl

/-! ### The resets -/

theorem test_reset_is_full_reset : fullReset State.reset = State.reset := by decide +kernel
/-- R107 with R91: no burst stands after a full reset, and the first choice comes before any time. -/
theorem test_first_choice_after_reset :
    State.reset.ranging.burst = none ∧ step State.reset = .next scanning ∧ scanning.now = 0 ∧
      (scanning.ranging.burst.map fun b => (b.column, b.purpose)) = some (0, .scan) :=
  ⟨rfl, rfl, rfl, by decide⟩
/-- R173: the seven blocks' events, and the RESTART let go at the last. -/
theorem test_restart_block_by_block :
    (restartNext restarting).restarted = 1 ∧
      (restartNext { restarting with restarted := 6 }).host.inHand = none := by decide +kernel
theorem test_present_discarded_during_restart :
    (after (.present 0 1) restarting).reader.sending = none := by decide
theorem test_reset_floor : State.reset.alerts.floor = 4 := rfl
theorem test_fullReset_lifted_column_absent :
    (after .fullReset (resting.modSup 3 fun p => { p with lift := .steady false })).sups[3].condition
      = .absent := by decide
theorem test_softRestart_keeps_floor :
    (after .softRestart { resting with alerts := ⟨[alert .overfill], 6, 2⟩ }).alerts = ⟨[], 6, 0⟩ := by
  decide +kernel

/-! ### Requests of the part -/

theorem test_identify :
    reply (after (.identify []) resting) =
      some [0x00, 0x5C, 0x0C, 0x01, 0x0C, 0x10, 0x00, 0x08, 0x00, 0x20] := by decide
theorem test_status_length : ((reply (after (.status []) resting)).map List.length) = some 41 := by
  decide +kernel
theorem test_restart_stays_in_hand :
    (after .replySent (after (.restart []) resting)).host.inHand =
      some ⟨⟨0x83, [0x00]⟩, true, true⟩ := by decide
theorem test_timeSet_limit :
    (after (.timeSet [0, 2, 0x01, 0x51, 0x7F]) resting).clock = ⟨2, 86399, true, 0⟩ := by decide
theorem test_timeSet_beyond :
    reply (after (.timeSet [0, 2, 0x01, 0x51, 0x80]) resting) = some [0x04] := by decide
theorem test_periodSet : (after (.periodSet [0x01, 0x9D]) resting).period = 413 := by decide
theorem test_clockAdvance_wraps :
    (after .clockAdvance { resting with clock := ⟨65535, 86399, true, 0⟩ }).clock = ⟨0, 0, true, 1000⟩ := by
  decide
/-- R170: the blanking distance may not pass a column's F less 50 (350 − 50). -/
theorem test_profileWrite_relation :
    reply (after (.profileWrite [0x0A, 0xFF, 0x01, 0x2D]) resting) = some [0x04, 0x00] := by decide
theorem test_profileWrite_taken :
    (after (.profileWrite [0x0A, 0xFF, 0x01, 0x2C]) resting).profile.blanking = 300 := by decide
theorem test_profileRead_first_item :
    ((reply (after (.profileRead [0xFF]) resting)).map (List.take 7)) =
      some [0x00, 0x01, 0xFF, 0xF0, 0x00, 0x00, 0x00] := by decide
theorem test_unknownKind : reply (after (.unknownKind 0x77) resting) = some [0x02, 0x77] := by decide
theorem test_checkError_counts : (after .checkError resting).host.linkErrors = 1 := by decide
theorem test_frameWhileRequestInHand :
    (after .frameWhileRequestInHand busy).host.linkErrors = 1 := by decide
theorem test_frameDiscard_hunting : after (.frameDiscard .host .badEndMark) resting = resting := by
  decide
theorem test_interbyteGap :
    (after (.interbyteGap .host) (after (.startMark .host) resting)).host.linkErrors = 1 := by decide

/-- R161: 51 ms after the last byte the gap discards the frame, and the late start mark begins another. -/
theorem test_late_byte_is_hunted :
    let s := (begun resting 51).receive .host [.byte 0xA1]
    let t := match step s with
      | .next t => t
      | _ => s
    t.host.frame = none ∧ t.host.linkErrors = 1 ∧ t.arriving = s.arriving ∧
      (match step t with
        | .next u => u
        | _ => t).host.frame = some ⟨[], 51⟩ := by decide +kernel
/-- R174: bytes brought before the reset's end are not taken. -/
theorem test_fullReset_takes_no_earlier_byte :
    (after .fullReset (resting.receive .host [.byte 0xA1])).arriving = [] := by decide
/-- R107: the choice due comes before a command, so COLUMN MEASURE finds the scan begun. -/
theorem test_choice_before_command :
    ((after (.columnMeasure [3]) State.reset).ranging.burst.map fun b => (b.column, b.purpose, b.start)) =
        some (0, .scan, 0) ∧
      ((after .clockAdvance State.reset).ranging.burst.map (·.start)) = some 0 := by decide
/-- R159, R160, R175: a FULL verdict with a redirect on RTX. -/
theorem test_verdict_bytes :
    (handVerdict ⟨4, .full, none, some 7⟩ resting).rtx =
      some [0xB2, 0x04, 0x02, 0x04, 0x18, 0x07, 0xD7, 0x0D] := by decide

/-! ### The card table -/

/-- The example of R33: 819 bytes' sum gives 0xFCCD and 2 slots. -/
theorem test_tableSum_example :
    reply (after (.tableSum [12, 12])
      { resting with
        table := table12
          [{ used 0x00012345 20 20 none with host := { (used 0x00012345 20 20 none).host with tariff := 3 } },
           { used 0x0001A0FF 255 255 none with
              host :=
                { card := 0x0001A0FF, cls := .business, fractions := 0b001010, tariff := 5,
                  allowance := 255, blocked := false, restriction := none } }] false }) =
      some [0x00, 0xFC, 0xCD, 0x00, 0x02] := by decide
/-- Cards 1044 to 1048 of R29. -/
theorem test_carryOver_table :
    ((carryOver [used 1045 20 15 (some 412)] ⟨1045, 0, 4, 3, 10, 0, 0, 0⟩).remaining = 10) ∧
      ((carryOver [used 1046 255 255 (some 412)] ⟨1046, 0, 4, 3, 30, 0, 0, 0⟩).remaining = 30) ∧
      ((carryOver [used 1047 4 0 (some 412)] ⟨1047, 0, 4, 3, 12, 0, 0, 0⟩).remaining = 0) ∧
      ((carryOver [used 1047 4 0 (some 412)] ⟨1048, 0, 4, 3, 12, 0, 0, 0⟩).stamp = none) := by decide
theorem test_commit_ends_provisional :
    (after (.tableData false [0, 0, 0, 9, 0, 4, 3, 20, 0, 0, 0, 0])
      { transferring .write 1 0 with table := CardTable.reset }).table.provisional = false := by decide
theorem test_commit_badValue :
    reply (after (.tableData false [0, 0, 0, 9, 3, 4, 3, 20, 0, 0, 0, 0]) (transferring .write 1 0)) =
      some [0x04, 0x00] := by decide
theorem test_verify_mismatch :
    reply (after (.tableData false []) (transferring .verify 0 0)) = some [0x00, 0x01] := by decide
theorem test_tableErase_pinned : reply (after (.tableErase [12, 12]) (loaded true)) = some [0x08] := by
  decide
theorem test_tablePin : (after (.tablePin [12, 12]) (loaded false)).table.blocks[12].pinned = true := by
  decide
theorem test_tableRelease_notEmpty :
    reply (after (.tableRelease [])
      (appendRecord 0 RecordFlags.none 0 (.serviceOpen 1 2) resting)) = some [0x12] := by decide
theorem test_cardQuery_provisional :
    reply (after (.cardQuery [0, 0, 0x04, 0x14]) resting) = some [0x0A] := by decide
theorem test_cardQuery_found :
    ((reply (after (.cardQuery [0, 0, 0x04, 0x14]) (loaded false))).map (List.drop 13)) =
      some [7, 1, 0x01, 0x9C, 0x01, 0x4B, 7, 12, 0] := by decide
/-- Keep all and add blocked, on a pinned block (R37, R40). -/
theorem test_cardModify_blocks_pinned :
    reply (after (.cardModify [0, 0, 0x04, 0x14, 0x7F, 0x40]) (loaded true)) = some [0x00, 0x44] := by
  decide
theorem test_cardModify_pinned :
    reply (after (.cardModify [0, 0, 0x04, 0x14, 0x7F, 0x01]) (loaded true)) = some [0x08] := by decide
theorem test_transferWatchExpiry :
    ((after .transferWatchExpiry (transferring .write 1 0)).alerts.entries.map (·.kind)) =
      [.transferAbandoned] := by decide

/-! ### Alerts -/

theorem test_alertFetch_empty : reply (after (.alertFetch [6]) resting) = some [0, 0, 0, 0] := by decide
theorem test_alertFloor_out_of_range : reply (after (.alertFloor [9]) resting) = some [0x04] := by decide
/-- R152: a level-7 raising into a full list of levels 2 and 4 removes the oldest level-2 entry. -/
theorem test_raise_displaces :
    ((AlertList.raise .forcedHatch (some 1) ⟨0, 0⟩
      ⟨(List.replicate 3 (alert .columnFull)) ++ [alert .nearFull] ++
        List.replicate 28 (alert .columnFull), 4, 0⟩).entries.map (·.kind)) =
      List.replicate 31 .columnFull ++ [.forcedHatch] := by decide

/-! ### Columns -/

theorem test_inputLevelChange_return_leaves_no_trace :
    (after (.inputLevelChange 2 .lift true) (after (.inputLevelChange 2 .lift false) resting)).sups[2].lift
      = .steady true := by decide
theorem test_columnRead_length :
    ((reply (after (.columnRead [11]) resting)).map List.length) = some 26 := by decide
theorem test_columnWithdraw :
    (after (.columnWithdraw [4]) resting).sups[4].reason = some .withdrawn := by decide
theorem test_columnService_hatch_open :
    reply (after (.columnService [4])
      (resting.modSup 4 fun p =>
        { p with condition := .outOfService, reason := some .forcedHatch, hatchOpen := true })) =
      some [0x11] := by decide
theorem test_columnMeasure_queues : (after (.columnMeasure [7]) scanning).ranging.queue = [7] := by decide
theorem test_hatchOpened_forced :
    (after (.hatchOpened 4) resting).sups[4].reason = some .forcedHatch := by decide
theorem test_liftOut_unauthorised : (after (.liftOut 4) resting).sups[4].condition = .absent := by decide
theorem test_liftIn_keeps_reason :
    (after (.liftIn 4) (after (.liftOut 4) resting)).sups[4].condition = .outOfService := by decide
/-- 01 1.9: the timer ends a release that the bolt has not followed. -/
theorem test_latchTravelTimeout_stalls :
    (after (.latchTravelTimeout 4)
      (resting.modSup 4 fun p =>
        { p with latch := .releasing, drive := .towardReleased, travel := some 800 })).sups[4].drive
      = .off := by decide
/-- 01 1.9: the released contact of a stalled latch moves its state and keeps its fault. -/
theorem test_latchContactChange_stalled :
    (after (.latchContactChange 4 .released true)
      (resting.modSup 4 fun p =>
        { p with
          latch := .releasing, condition := .outOfService, reason := some .latchFault,
          homeContact := .steady false })).sups[4].latch = .released := by decide

/-! ### Access -/

/-- 04 4.8: the grant's charge leaves 19 of 20 after the period has moved on. -/
theorem test_present_charges :
    (after (.present 0 1044)
      { loaded false with
        period := 413,
        profile := { Profile.default with
          columns := Profile.default.columns.set (0 : Column)
            { ColumnProfile.default with fraction := 2 } } }).table.blocks[12].entries.map (·.remaining)
      = [19] := by decide
theorem test_present_unknown :
    (after (.present 0 1) resting).reader.sending = some ⟨0, .unknownCard, none, none⟩ := by decide
theorem test_grantTimerExpiry_lapses :
    (after (.grantTimerExpiry 0) (cycle .awaitOpen false)).reader.sending = some ⟨0, .lapsed, none, none⟩ := by
  decide
theorem test_openTimerExpiry_late :
    ((after (.openTimerExpiry 0) (cycle .open false)).access[0].context.map (·.late)) = some true := by decide
theorem test_latchRestExpiry :
    (after (.latchRestExpiry 0)
      ((resting.modAccess 0 fun a => { a with rest := some 5000 }).modSup 0 fun p =>
        { p with latch := .released, homeContact := .steady false, releasedContact := .steady true })).sups[0].drive
      = .towardHome := by decide
theorem test_hatchClosed_increment :
    (after (.hatchClosed 0)
      ((cycle .open false).modSup 0 fun p => { p with hatch := .steady false, hatchOpen := true })).fills[0].estimate
      = 2 := by decide
/-- What a line brings, taken one after the other. -/
def brought (line : Line) (hs : List Heard) (s : State) : State :=
  hs.foldl (fun s h => match arrive line h s with
    | .next t => t
    | .fault _ => s
    | .refused _ => s) s

/-- PERIOD SET 413 as R160 spells it, brought in two parts. -/
theorem test_frame_in_two_receptions :
    let first := brought .host ([0xA1, 0x03, 0x05, 0x01].map Heard.byte) resting
    first.host.frame = some ⟨[0x03, 0x05, 0x01], 0⟩ ∧
      (brought .host ([0x9D, 0x5A, 0x0D].map Heard.byte) first).period = 413 ∧
      (brought .host ([0x9D, 0x5A, 0x0D].map Heard.byte) first).host.frame = none := by
  decide +kernel
theorem test_deaf_while_sending :
    (brought .reader ([0xB1, 0x06].map Heard.byte)
      (handVerdict ⟨0, .busy, none, none⟩ resting)).reader.frame = none := by decide
theorem test_liftOut_in_permitted_fails_entry :
    ((after (.liftOut 0) (onRound .active (some .permitted))).round.entryOf 0).map (·.failReason)
      = some (some .unauthorisedLift) := by decide
theorem test_verdictSent_next :
    (after .verdictSent
      { resting with
        reader := ⟨none, [⟨1, .busy, none, none⟩], some ⟨0, .fault, none, none⟩⟩ }).reader
      = ⟨none, [], some ⟨1, .busy, none, none⟩⟩ := by decide
theorem test_readerFrameRejected :
    (after (.readerFrameRejected .badColumn) (after (.startMark .reader) resting)).reader.frame
      = none := by decide

/-! ### Ranging -/

/-- R98 at the defaults: 1,100 mm is 103 points and 1,200 mm is 90. -/
theorem test_convertFill : convertFill 1900 350 1100 = 103 ∧ convertFill 1900 350 1200 = 90 := by decide
theorem test_ping_time :
    ((after .ping State.reset).ranging.burst.bind (·.window)) = some 60 := by decide
theorem test_echo_blanking :
    ((after (.echo 199) (after .ping State.reset)).ranging.burst.map (·.results)) = some [] := by decide
theorem test_echo_at_blanking :
    ((after (.echo 200) (after .ping State.reset)).ranging.burst.map (·.results)) = some [.distance 200] := by
  decide
theorem test_noEcho_moment : (after .noEcho (after .ping State.reset)).now = 83 := by decide
/-- The pass begins: column 0 still has a skip count of 5, so column 1 is measured (R94, R95). -/
theorem test_scanPauseExpiry :
    (after .scanPauseExpiry
      { scanning with ranging := { scanning.ranging with burst := none, pause := some 9 } }).ranging.rsel
      = 1 := by decide
/-- R103 at the defaults: a FULL column stays FULL at 160 and is NORMAL at 149. -/
theorem test_band_hysteresis :
    nextBand 150 185 .full 160 = .full ∧ nextBand 150 185 .full 149 = .normal ∧
      nextBand 150 185 .nearFull 185 = .full := by decide

/-! ### Rounds and journal -/

theorem test_roundOpen_reserves :
    (after (.roundOpen [0, 5, 0, 0, 0, 9, 2, 0, 1]) resting).journal.reservations = 2 := by decide
theorem test_roundClaim_permits :
    (after (.roundClaim [0]) (onRound .pending none)).sups[0].permit = true := by decide
theorem test_roundSkip_records :
    ((after (.roundSkip [0]) (onRound .pending none)).journal.records.map (·.seq)) = [0] := by decide
theorem test_roundKeep :
    reply (after (.roundKeep []) (onRound .pending none)) = some [0x00, 0x01, 0x2C] := by decide
theorem test_roundClose_counts :
    reply (after (.roundClose []) (onRound .pending none)) = some [0x00, 2] := by decide
theorem test_roundRead_none : ((reply (after (.roundRead []) resting)).map List.length) = some 19 := by
  decide
theorem test_supervisionTimerExpiry :
    (after .supervisionTimerExpiry (onRound .active (some .permitted))).round.state = .aborted := by decide
theorem test_settleTimerExpiry :
    ((after .settleTimerExpiry (onRound .active (some .settling))).ranging.burst.map (·.purpose))
      = some .emptying := by decide
theorem test_journalRead_restart :
    (after (.journalRead [8, 1])
      { appendRecord 0 RecordFlags.none 0 (.serviceOpen 1 2) resting with
        host := HostLink.reset }).journal.readMark = 1 := by decide
theorem test_journalRelease_above_mark :
    reply (after (.journalRelease [0, 1]) resting) = some [0x04] := by decide

/-! ### Witnesses: states and operands that meet each statement's hypotheses, clause by clause -/

/-- Reservations held. -/
def reserved (n : Nat) (s : State) : State := { s with journal := { s.journal with reservations := n } }

/-- One record held. -/
def recorded : State :=
  { appendRecord 0 RecordFlags.none 0 (.serviceOpen 1 2) resting with host := HostLink.reset }

/-- The engine at rest, with a forced queue and a pause. -/
def engine (queue : List Column) (pause : Option Nat) : State :=
  { State.reset with
    ranging := { scanning.ranging with burst := none, queue := queue, pause := pause } }

/-- A burst on column 0 with its window open and some slots filled. -/
def measuring (purpose : Purpose) (results : List PingResult) (round : Round) : State :=
  { resting with
    round := round,
    ranging := { Ranging.reset with
      burst := some
        { column := 0, purpose := purpose, start := 0, window := some 180, results := results,
          blanking := 200 } } }

/-- Column 0 with a card 7 in block 12 whose host-loaded fields and remaining are given, and a band. -/
def holding (cls : CardClass) (fractions : BitVec 6) (blocked : Bool)
    (restriction : Option (BitVec 12)) (allowance : Nat) (band : Band) (n : Nat) : State :=
  { reserved n resting with
    table := table12
      [{ host :=
          { card := 7, cls := cls, fractions := fractions, tariff := 0, allowance := allowance,
            blocked := blocked, restriction := restriction },
         remaining := allowance, stamp := some 0, uses := 0 }] false,
    fills := resting.fills.set (0 : Column) { Fill.reset with band := band } }

/-- What the lookup finds of card 7 of `holding`. -/
def found (s : State) : Option Found := lookupPresent 7 s

/-- A latch on its way. -/
def moving (latch : LatchState) (drive : Drive) (s : State) : State :=
  s.modSup 0 fun p =>
    { p with latch := latch, drive := drive, travel := some 800, homeContact := .steady false }

/-- Column 0 with its container out. -/
def lifted (condition : Condition) (reason : Option Reason) (hatch : Bool) (s : State) : State :=
  s.modSup 0 fun p =>
    { p with condition := condition, reason := reason, lift := .steady false, hatch := .steady hatch }

/-- Column 0 in a condition. -/
def withCondition (condition : Condition) (reason : Option Reason) (s : State) : State :=
  s.modSup 0 fun p => { p with condition := condition, reason := reason }

/-- The engine of every state built here has chosen, but of State.reset. -/
theorem witness_chosen :
    resting.chosen ∧ scanning.chosen ∧ busy.chosen ∧ restarting.chosen ∧ recorded.chosen ∧
      ¬State.reset.chosen ∧ (∀ p, (loaded p).chosen) ∧ (∀ k m n, (transferring k m n).chosen) ∧
      (∀ st b, (cycle st b).chosen) ∧ (∀ st g, (onRound st g).chosen) ∧
      (∀ q n, (engine q (some n)).chosen) ∧ (∀ p rs r, (measuring p rs r).chosen) ∧
      (∀ k f b r a band n, (holding k f b r a band n).chosen) ∧
      ∀ (s : State) (c : Column) (f : Supervisor → Supervisor) (g : Access → Access),
        s.chosen → (s.modSup c f).chosen ∧ (s.modAccess c g).chosen := by
  refine ⟨by decide, by decide, by decide, by decide, by decide, by decide, ?_, ?_, ?_, ?_, ?_, ?_, ?_,
    fun _ _ _ _ h => ⟨h, h⟩⟩ <;> intros <;> first | exact .inr rfl | exact .inl rfl
theorem witness_EmptyQueuePassesOneMillisecond :
    State.reset.pending = [] ∧ ¬State.reset.chosen ∧ scanning.chosen ∧
      (∃ r, (begun scanning 51).reception .host = some r ∧ r.last + 51 ≤ (begun scanning 51).now) ∧
      (∀ r, (begun scanning 50).reception .host = some r → (begun scanning 50).now < r.last + 51) ∧
      .interbyteGap .host ∈ dueEvents (begun scanning 51) ∧
      .interbyteGap .host ∉ dueEvents (begun scanning 50) ∧
      scanning.pending = [] ∧ scanning.ranging.burst.isSome = true ∧ dueEvents scanning = [] ∧
      dueEvents { scanning with now := 59 } = [] ∧
      .ping ∈ dueEvents { scanning with now := 60 } ∧
      .softRestart ∈ dueEvents { restarting with ranging := scanning.ranging } ∧
      .noEcho ∈ dueEvents { after .ping scanning with now := 84 } ∧
      .noEcho ∉ dueEvents { after .ping scanning with now := 83 } ∧
      .clockAdvance ∈ dueEvents { scanning with now := 1000 } ∧
      (scanning.receive .host [.byte 0xA1]).arriving = [(.host, .byte 0xA1)] ∧
      scanning.arriving = [] := by
  refine ⟨by decide, by decide, by decide, ⟨⟨[0x03, 0x05], 0⟩, by decide⟩, ?_, by decide +kernel⟩
  intro r h; cases h; decide
theorem witness_OnlyTheirCommandsChangeThem :
    (∃ t, exec .ping resting = .next t) ∧ Instr.checkError.isHostFrame = true ∧
      busy.host.inHand.isSome = true ∧ resting.alerts.dropped ≤ 255 ∧ (1 : Column) ≠ 0 :=
  ⟨⟨_, rfl⟩, by decide⟩
theorem witness_BusyLinkDiscardsFrame :
    Instr.checkError.isHostFrame = true ∧ (Instr.roundKeep []).isHostFrame = true ∧
      busy.host.inHand.isSome = true := by decide
theorem witness_BadFramesAnswered :
    resting.host.inHand = none ∧
      (Instr.identify [0]).request = some (0x01, [0]) ∧ (Instr.identify [0]).lengthAllowed = false ∧
      (Instr.tableData true []).lengthAllowed = false ∧
      (Instr.tableData false (List.replicate 108 0)).lengthAllowed = false ∧
      (Instr.profileWrite [0, 0]).lengthAllowed = false ∧
      (Instr.roundOpen [0, 1, 0, 0, 0, 1, 2, 0]).lengthAllowed = false := by decide +kernel
theorem witness_LinesReceiveAndSend_bytes :
    let sum (kind check : Byte) (body : List Byte) : Byte :=
      byte (body.length + 1) + kind + body.foldl (· + ·) 0 + check
    (List.replicate 239 (0 : Byte)).length ≤ 239 ∧ sum 0x05 0x5A [0x01, 0x9D] = 0 ∧
      sum 0x05 0x5B [0x01, 0x9D] ≠ 0 ∧ requestKinds.contains 0x50 = false ∧ sum 0x50 0xAF [] = 0 ∧
      (Instr.periodSet [0x01, 0x9D]).request = some (0x05, [0x01, 0x9D]) ∧
      (Instr.tableData true []).moreFollows = decide ((0x0C : Byte) = 0x0C) ∧
      sum 0x11 0xEE [] = 0 ∧ sum 0x01 0xF8 [1, 0, 0, 0, 0] = 0 ∧ sum 0x02 0xFD [] = 0 ∧
      sum 0x01 0xED [12, 0, 0, 0, 0] = 0 ∧ sum 0x01 0xFE [] = 0 ∧ (11 : Byte).toNat = (11 : Column).val ∧
      12 ≤ (12 : Byte).toNat ∧ 240 < (241 : Byte).toNat ∧ (0 : Byte).toNat = 0 ∧
      1 ≤ (1 : Byte).toNat ∧ ([0x05, 0xFA] : List Byte).length ≤ (1 : Byte).toNat + 1 ∧
      (hear .host (resting.receiver .host) (.byte 0xA1)).2 = some (.startMark .host) ∧
      (hear .reader (resting.receiver .reader) (.byte 0xA1)).2 = none := by
  decide +kernel
theorem witness_LinesReceiveAndSend :
    (after (.startMark .host) resting).host.frame = some ⟨[], 0⟩ ∧
      resting.reader.frame = none ∧
      (after (.startMark .reader) resting).reader.frame = some ⟨[], 0⟩ ∧
      resting.reader.sending = none ∧ resting.reader.waiting = [] ∧
      (busy.host.inHand.map (·.restart)) = some false ∧
      ((after (.restart []) resting).host.inHand.map (·.restart)) = some true ∧
      (handVerdict ⟨0, .busy, none, none⟩ resting).reader.sending = some ⟨0, .busy, none, none⟩ ∧
      (handVerdict ⟨0, .busy, none, none⟩ resting).reader.frame = none ∧
      (begun resting 51).reception .host = some ⟨[0x03, 0x05], 0⟩ ∧ resting.reception .reader = none ∧
      (busy.host.inHand.map (·.sent)) = some false ∧ (restarting.host.inHand.map (·.sent)) = some true := by
  decide
theorem witness_ReadsChangeNothing :
    resting.host.inHand = none ∧ (0x0B : Byte).toNat < 12 ∧ ¬(0x0C : Byte).toNat < 12 := by decide
theorem witness_ProfileWriteJudged :
    resting.host.inHand = none ∧ resting.profile.full ≤ (185 : Byte).toNat ∧
      (184 : Byte).toNat < resting.profile.full ∧ 199 < (200 : Byte).toNat ∧
      (cycle .open false).access[(0 : Column)].state ≠ .locked ∧
      (onRound .pending none).round.lists 1 = true ∧
      (onRound .pending none).access[(2 : Column)].state = .locked ∧
      (onRound .pending none).round.lists 2 = false := by decide
theorem witness_EnabledItemSwitchesColumn :
    let off (p : Supervisor → Supervisor) : State :=
      (after (.profileWrite [0x20, 0, 0]) resting).modSup 0 p
    resting.host.inHand = none ∧ resting.access[(0 : Column)].state = .locked ∧
      resting.round.lists 0 = false ∧ resting.profile.columns[(0 : Column)].enabled = true ∧
      resting.ranging.queue.Nodup ∧
      (off id).profile.columns[(0 : Column)].enabled = false ∧
      (off id).sups[(0 : Column)].condition = .disabled ∧
      (off id).sups[(0 : Column)].latch = .home ∧
      (off fun p => { p with lift := .steady false }).sups[(0 : Column)].lift.level = false ∧
      (off fun p => { p with latch := .homing }).sups[(0 : Column)].latch ≠ .home ∧
      (off fun p => { p with hatchOpen := true }).sups[(0 : Column)].hatchOpen = true := by decide +kernel
theorem witness_RestartAnsweredThenTaken :
    resting.host.inHand = none ∧ restarting.host.inHand = some ⟨⟨0x83, [0x00]⟩, true, true⟩ ∧
      restarting.reader.sending = none ∧ restarting.restarted = 0 ∧
      { restarting with restarted := 5 }.restarted < 6 ∧
      { restarting with round := (onRound .pending none).round }.round.state = .open ∧
      restarting.round.state ≠ .open := by decide
theorem witness_SoftRestartSettlesAndKeeps :
    JournalLaw (cycle .open false) ∧ (onRound .pending none).round.state = .open ∧
      RoundLaw (onRound .active (some .lifted)) ∧ (onRound .active (some .lifted)).round.state = .open ∧
      (cycle .open false).access[(0 : Column)].state = .open ∧
      (cycle .open false).access[(0 : Column)].context = some (grantOf false) ∧
      (grantOf false).service = false ∧ (cycle .open true).access[(0 : Column)].context = some (grantOf true) ∧
      (grantOf true).service = true ∧ resting.access[(0 : Column)].state ≠ .open ∧
      resting.round.state ≠ .open ∧ resting.sups[(0 : Column)].homeAlone = true ∧
      (moving .releasing .towardReleased resting).sups[(0 : Column)].homeAlone = false := by
  unfold JournalLaw RoundLaw; decide
theorem witness_RestartSettlesGrant :
    (cycle .releasing false).access[(0 : Column)].context = some (grantOf false) ∧
      (grantOf false).service = false ∧ (grantOf true).service = true ∧
      (cycle .homing true).access[(0 : Column)].context = some (grantOf true) ∧
      (cycle .homing true).access[(0 : Column)].state = .homing := by decide
theorem witness_ClockAndPeriodSet :
    resting.host.inHand = none ∧ (used 1044 20 7 (some 412)).stamp ≠ some 413 ∧
      (used 1044 20 7 none).stamp ≠ some 413 := by decide
theorem witness_AlertRequestsServed : resting.chosen ∧ resting.host.inHand = none := by decide
theorem witness_RaisingJoinsList :
    (∃ e ∈ [alert .nearFull], e.kind = .nearFull ∧ e.column = some 0) ∧
      (∀ e ∈ List.replicate 32 (alert .nearFull), ¬(e.kind = .forcedHatch ∧ e.column = some 1)) ∧
      32 ≤ (List.replicate 32 (alert .nearFull)).length ∧
      (∀ e ∈ List.replicate 32 (alert .nearFull), AlertKind.roundEnded.level ≤ e.kind.level) ∧
      List.replicate 32 (alert .nearFull) = [] ++ alert .nearFull :: List.replicate 31 (alert .nearFull) ∧
      (alert .nearFull).kind.level < AlertKind.forcedHatch.level ∧
      (∀ x ∈ List.replicate 32 (alert .nearFull), (alert .nearFull).kind.level ≤ x.kind.level) := by
  decide
theorem witness_TransferOpenedFilledAbandoned :
    resting.host.inHand = none ∧ resting.host.transfer = none ∧
      (transferring .write 1 0).host.transfer.isSome = true ∧
      (transferring .write 1 0).host.inHand = none ∧
      (List.replicate 96 (0 : Byte)).length % 12 = 0 ∧ (List.replicate 96 (0 : Byte)).length ≤ 96 ∧
      List.replicate 96 (0 : Byte) ≠ [] := by decide
theorem witness_FinalFrameCommits :
    let good : RawEntry := ⟨9, 0, 4, 3, 20, 0, 0, 0⟩
    let s (delivered : Nat) := transferring .write 1 delivered
    let elsewhere : CardTable :=
      { table12 [] false with
        blocks := (table12 [] false).blocks.set (3 : Fin 64) ⟨[used 9 20 7 none], false⟩ }
    (s 0).host.inHand = none ∧ (s 0).host.transfer = some ⟨.write, 12, 1, 0, 2000⟩ ∧
      (loaded true).table.blocks[(12 : Fin 64)].pinned = true ∧
      (s 0).table.blocks[(12 : Fin 64)].pinned = false ∧
      parseEntries [0, 0, 0, 9, 0, 4, 3, 20, 0, 0, 0, 0] = [good] ∧ good.valid = true ∧
      { good with cls := 3 }.valid = false ∧ { good with cls := 2 }.valid = true ∧
      { good with card := 0 }.valid = false ∧ { good with fractions := 64 }.valid = false ∧
      { good with tariff := 16 }.valid = false ∧ { good with spare := 1 }.valid = false ∧
      { good with flags := 2, restriction := 4096 }.valid = false ∧
      { good with flags := 4 }.valid = false ∧ { good with restriction := 1 }.valid = false ∧
      offends elsewhere 12 [good] 0 :=
  ⟨rfl, rfl, rfl, rfl, rfl, rfl, rfl, rfl, rfl, rfl, rfl, rfl, rfl, rfl, rfl,
    ⟨9, 0, 4, 3, 20, 0, 0, 0⟩, rfl, .inr ⟨3, by decide, used 9 20 7 none, by decide, rfl⟩⟩
theorem witness_FinalFrameCommits_none_offends :
    ∀ i, ¬offends (loaded false).table 12 [⟨9, 0, 4, 3, 20, 0, 0, 0⟩] i := by
  rintro i ⟨r, hr, ⟨j, hj, q, hq, hc⟩ | ⟨k, hk, e, he, hc⟩⟩
  · cases i <;> cases j <;> simp_all
  · have h : ∀ k : Fin 64, k ≠ 12 → (loaded false).table.blocks[k].entries = [] := by decide +kernel
    rw [h k hk] at he
    exact nomatch he
theorem witness_CommitCarriesOver :
    let old := [used 1044 20 7 (some 412)]
    (∃ e ∈ old, e.host.card = (⟨1044, 0, 4, 3, 10, 0, 0, 0⟩ : RawEntry).card ∧
        ∀ k ∈ old, k.host.card = (1044 : CardNumber) → k = e) ∧
      (∀ e ∈ old, e.host.card ≠ (⟨9, 0, 4, 3, 10, 0, 0, 0⟩ : RawEntry).card) ∧
      (⟨9, 0, 4, 3, 10, 0, 0, 0⟩ : RawEntry).valid = true := by decide
theorem witness_FinalFrameVerifies :
    (transferring .verify 0 0).host.transfer = some ⟨.verify, 12, 0, 0, 2000⟩ ∧
      (transferring .verify 0 0).host.inHand = none ∧ ([] : List RawEntry).length ≤ 64 ∧
      (loaded false).table.blocks[(12 : Fin 64)].entries.length ≤ 64 := by decide
theorem witness_BlocksErasedPinnedReleased :
    let within (first last : Byte) (b : Fin 64) := first.toNat ≤ b.val ∧ b.val ≤ last.toNat
    resting.host.inHand = none ∧ resting.host.transfer = none ∧
      63 < (64 : Byte).toNat ∧ (3 : Byte).toNat < (4 : Byte).toNat ∧
      ¬(63 < (63 : Byte).toNat ∨ (63 : Byte).toNat < (63 : Byte).toNat) ∧
      within 12 12 12 ∧ (loaded true).table.blocks[(12 : Fin 64)].pinned = true ∧
      (∀ b, within 0 11 b → (loaded true).table.blocks[b].pinned = false) ∧
      recorded.journal.records ≠ [] ∧ resting.journal.records = [] ∧
      (onRound .pending none).journal.records = [] ∧
      (onRound .pending none).round.state = .open ∧ resting.round.state ≠ .open := by
  decide +kernel
theorem witness_TableSumSubtracts : resting.host.inHand = none := rfl
theorem witness_CardQueried_CardModified :
    let s := loaded true
    let e := used 1044 20 7 (some 412)
    let old : BitVec 7 := BitVec.ofBool e.host.blocked ++ e.host.fractions
    let new (keep add : Byte) : BitVec 7 := (old &&& keep.setWidth 7) ||| add.setWidth 7
    s.host.inHand = none ∧ ((0 : Byte) ++ (0 : Byte) ++ (0 : Byte) ++ (0 : Byte) : BitVec 32) = 0 ∧
      ((0 : Byte) ++ (0 : Byte) ++ (4 : Byte) ++ (0x14 : Byte) : BitVec 32) = 1044 ∧
      resting.table.provisional = true ∧ s.table.provisional = false ∧ s.table.cards.Nodup ∧
      s.table.blocks[(12 : Fin 64)].entries[0]? = some e ∧ e.host.card = 1044 ∧
      (∀ b : Fin 64, ∀ e ∈ s.table.blocks[b].entries, e.host.card ≠ 9) ∧
      (0x80 : Byte).getLsbD 7 = true ∧ (0x7F : Byte).getLsbD 7 = false ∧
      s.table.blocks[(12 : Fin 64)].pinned = true ∧ new 0x7F 1 ≠ old ∧ new 0x7F 1 ≠ (old ||| 64#7) ∧
      new 0x7F 0x40 = (old ||| 64#7) ∧ new 0x7F 0 = old := by decide +kernel
theorem witness_ChargeSpendsOneUse :
    (used 1 255 255 none).host.allowance = 255 ∧ (used 1 254 3 (some 412)).host.allowance ≠ 255 ∧
      (used 1 254 3 (some 412)).stamp = some 412 ∧ (used 1 254 3 (some 412)).stamp ≠ some 413 := by decide
theorem witness_RefundReturnsOneUse :
    let t := (loaded false).table
    resting.table.provisional = true ∧ t.provisional = false ∧ t.cards.Nodup ∧
      (1044 : CardNumber) ≠ 0 ∧ t.blocks[(12 : Fin 64)].entries[0]? = some (used 1044 20 7 (some 412)) ∧
      (∀ b : Fin 64, ∀ e ∈ t.blocks[b].entries, e.host.card ≠ 9) ∧
      (used 1044 20 7 (some 412)).stamp = some 412 ∧
      (used 1044 20 7 (some 412)).stamp ≠ some 413 := by decide +kernel
theorem witness_ColumnsServicedWithdrawnMeasured :
    let out := withCondition .outOfService (some .withdrawn) resting
    let p := out.sups[(0 : Column)]
    resting.host.inHand = none ∧ 12 ≤ (12 : Byte).toNat ∧
      (11 : Byte).toNat = (11 : Column).val ∧
      (withCondition .disabled none resting).sups[(0 : Column)].condition = .disabled ∧
      resting.sups[(0 : Column)].condition = .inService ∧
      (withCondition .absent none resting).sups[(0 : Column)].condition = .absent ∧
      p.condition = .outOfService ∧ p.reason.isSome = true ∧
      ¬(p.condition = .absent ∨ p.hatchOpen = true ∨ p.latch ≠ .home ∨ out.round.claims 0 = true) ∧
      (onRound .active (some .permitted)).round.claims 0 = true ∧
      scanning.ranging.burst.isSome = true ∧ scanning.sups[(0 : Column)].condition ≠ .disabled ∧
      resting.ranging.burst = none ∧ resting.ranging.queue = [] ∧
      eligible resting 0 = true := by decide
theorem witness_RoundOpened :
    (onRound .pending none).round.state = .open ∧ (onRound .pending none).host.inHand = none ∧
      resting.round.state ≠ .open ∧ ¬([0, 0] : List Byte).Nodup ∧
      (∃ b ∈ ([12] : List Byte), 12 ≤ b.toNat) ∧ 12 < (13 : Byte).toNat ∧
      (∃ b ∈ ([0] : List Byte), ∃ c : Column, c.val = b.toNat ∧
        (withCondition .disabled none resting).sups[c].condition = .disabled) ∧
      ¬((5 : BitVec 16) = 0 ∨ (2 : Byte).toNat = 0 ∨ 12 < (2 : Byte).toNat ∨
        (∃ b ∈ ([0, 11] : List Byte), 12 ≤ b.toNat) ∨ ¬([0, 11] : List Byte).Nodup ∨
        ∃ b ∈ ([0, 11] : List Byte), ∃ c : Column,
          c.val = b.toNat ∧ resting.sups[c].condition = .disabled) ∧
      2048 < (reserved 2047 resting).journal.records.length +
        (reserved 2047 resting).journal.reservations + 2 ∧
      (reserved 2046 resting).journal.records.length +
        (reserved 2046 resting).journal.reservations + 2 ≤ 2048 := by decide
theorem witness_RoundClaimed :
    let s := onRound .pending none
    let inState (st : AccessState) : State := { s with access := (cycle st false).access }
    s.host.inHand = none ∧ resting.round.state ≠ .open ∧ s.round.state = .open ∧
      s.round.entryOf 2 = none ∧ s.round.entryOf 0 = some (entry 0 .pending) ∧
      (onRound .done none).round.entryOf 0 = some (entry 0 .done) ∧
      (onRound .active (some .draining)).round.active.isSome = true ∧
      (onRound .active (some .draining)).round.entryOf 1 = some (entry 1 .pending) ∧
      s.round.active = none ∧ (s.round.manifest.map (·.column)).Nodup ∧
      (withCondition .absent none s).sups[(0 : Column)].condition ≠ .inService ∧
      (withCondition .outOfService (some .withdrawn) s).sups[(0 : Column)].reason = some .withdrawn ∧
      s.sups[(0 : Column)].condition = .inService ∧ s.access[(0 : Column)].state = .locked ∧
      (s.sups[(0 : Column)].latch = .home ∧ s.sups[(0 : Column)].drive = .off ∧
        s.sups[(0 : Column)].homeContact.level = true ∧
        s.sups[(0 : Column)].releasedContact.level = false) ∧
      (moving .homing .towardHome s).sups[(0 : Column)].latch ≠ .home ∧
      (inState .releasing).access[(0 : Column)].state = .releasing ∧
      (inState .awaitOpen).access[(0 : Column)].context = some (grantOf false) ∧
      (moving .released .off (inState .awaitOpen)).sups[(0 : Column)].homeAlone = false ∧
      (inState .open).access[(0 : Column)].state = .open := by decide
theorem witness_RoundSkipped :
    let s (st : EntryStatus) (stage : Option Stage) := onRound st stage
    (s .pending none).host.inHand = none ∧ resting.round.state ≠ .open ∧
      (s .pending none).round.state = .open ∧ (s .pending none).round.entryOf 2 = none ∧
      (s .done none).round.entryOf 0 = some (entry 0 .done) ∧
      (s .active (some .settling)).round.entryOf 0 = some (entry 0 .active) ∧
      (s .pending none).round.entryOf 0 = some (entry 0 .pending) ∧
      (s .active (some .permitted)).round.stage = some .permitted ∧
      (s .active (some .draining)).round.stage = some .draining ∧
      ((s .pending none).round.manifest.map (·.column)).Nodup ∧
      RoundLaw (s .active (some .permitted)) ∧ RoundLaw (s .active (some .lifted)) ∧
      (s .active (some .lifted)).round.entryOf 1 = some (entry 1 .pending) := by
  unfold RoundLaw; decide
theorem witness_RoundKeptAndClosed :
    resting.host.inHand = none ∧ resting.round.state ≠ .open ∧
      (onRound .pending none).host.inHand = none ∧ (onRound .pending none).round.state = .open ∧
      (onRound .active (some .lifted)).round.active.isSome = true ∧
      (onRound .active (some .lifted)).round.shouldCount = false ∧
      (onRound .pending none).round.shouldCount = true ∧
      (onRound .pending none).round.active = none ∧
      ((onRound .pending none).round.manifest.map (·.column)).Nodup := by decide
theorem witness_RoundTimersExpire :
    let s := onRound .active (some .draining)
    s.round.state = .open ∧ s.round.shouldCount = true ∧ s.round.supervision = .counting 300000 ∧
      RoundLaw s ∧ s.round.active = some (entry 0 .active) ∧ s.alerts.entries = [] ∧
      (∃ e ∈ s.round.manifest, e.status = .pending) ∧
      (onRound .active (some .permitted)).round.shouldCount = true ∧
      (onRound .active (some .settling)).round.settleTimer = some 20000 ∧
      (onRound .active (some .settling)).round.active = some (entry 0 .active) ∧
      (onRound .active (some .settling)).round.stage = some .settling ∧
      { onRound .active (some .settling) with ranging := scanning.ranging }.ranging.burst.isSome = true ∧
      (onRound .active (some .settling)).ranging.burst = none ∧
      (onRound .active (some .settling)).ranging.pause.isSome = true ∧
      (onRound .active (some .settling)).sups[(0 : Column)].condition = .inService ∧
      (onRound .active (some .settling)).sups[(0 : Column)].lift.level = true ∧
      (onRound .active (some .settling)).sups[(0 : Column)].hatchOpen = false ∧
      (onRound .active (some .settling)).access[(0 : Column)].state = .locked ∧
      ((onRound .active (some .settling)).modSup 0 fun p => { p with hatchOpen := true }).sups[(0 : Column)].hatchOpen
        = true := by
  unfold RoundLaw; decide
theorem witness_JournalReadAndReleased :
    recorded.host.inHand = none ∧ ¬((0x00 : Byte).toNat * 256 + (0x01 : Byte).toNat = 0) ∧
      (after .replySent (after (.journalRead [1, 0]) recorded)).journal.readMark = 1 := by decide
theorem witness_PresentRefused_and_EngineChoosesNext_reads :
    let late (second : Nat) : State :=
      { resting with
        clock := ⟨0, second, true, 0⟩,
        profile := { Profile.default with
          columns := Profile.default.columns.set (0 : Column)
            { ColumnProfile.default with quietWindow := some (1320, 360) } } }
    quiet (late 79200) 0 = true ∧ quiet (late 79199) 0 = false ∧ quiet (late 21599) 0 = true ∧
      quiet (late 21600) 0 = false ∧ quiet resting 0 = false ∧
      resting.table.provisional = true ∧ (loaded false).table.provisional = false ∧
      (1044 : CardNumber) ≠ 0 ∧ (loaded false).table.cards.Nodup ∧
      (∃ e ∈ (loaded false).table.blocks[(12 : Fin 64)].entries, e.host.card = 1044) ∧
      (∀ b : Fin 64, ∀ e ∈ (loaded false).table.blocks[b].entries, e.host.card ≠ 9) ∧
      eligible resting 0 = true ∧ eligible (onRound .active (some .permitted)) 0 = false ∧
      eligible (onRound .active (some .measuring)) 0 = true := by decide +kernel
theorem witness_PresentRefused :
    let s := holding .resident 1 false none 5 .normal 0
    let h (cls : CardClass) (blocked : Bool) := (found (holding cls 1 blocked none 5 .normal 0)).map (·.host)
    (handVerdict ⟨0, .busy, none, none⟩ s).reader.sending.isSome = true ∧ s.reader.sending = none ∧
      restarting.restarting = true ∧ restarting.reader.sending = none ∧ s.restarting = false ∧
      (withCondition .disabled none s).sups[(0 : Column)].condition = .disabled ∧
      s.sups[(0 : Column)].condition ≠ .disabled ∧
      (cycle .open false).access[(0 : Column)].state ≠ .locked ∧
      s.access[(0 : Column)].state = .locked ∧
      (onRound .active (some .permitted)).round.claims 0 = true ∧ s.round.claims 0 = false ∧
      lookupPresent 8 s = none ∧ (h .resident true).map (·.blocked) = some true ∧
      (h .crew false).map (·.blocked) = some false ∧ (h .crew false).map (·.cls) = some .crew ∧
      (withCondition .outOfService (some .latchFault) s).sups[(0 : Column)].admitsCrew = false ∧
      s.sups[(0 : Column)].admitsCrew = true ∧
      2036 ≤ (holding .crew 1 false none 5 .normal 2036).journal.records.length +
        (holding .crew 1 false none 5 .normal 2036).journal.reservations ∧
      (h .business false).map (·.cls) = some .business ∧
      (withCondition .outOfService (some .withdrawn) s).sups[(0 : Column)].condition ≠ .inService := by
  decide
theorem witness_PresentRefused_residents :
    let fits (s : State) := (found s).map fun f => f.host.fractions.getLsbD s.profile.columns[0].fraction.val
    let here (s : State) := (found s).map fun f => f.host.admitsColumn 0
    let late : State :=
      { holding .resident 1 false none 5 .normal 0 with
        clock := ⟨0, 0, true, 0⟩,
        profile := { Profile.default with
          columns := Profile.default.columns.set (0 : Column)
            { ColumnProfile.default with quietWindow := some (1320, 360) } } }
    fits (holding .resident 2 false none 5 .normal 0) = some false ∧
      fits (holding .resident 1 false none 5 .normal 0) = some true ∧
      here (holding .resident 1 false (some 2) 5 .normal 0) = some false ∧
      here (holding .resident 1 false (some 1) 5 .normal 0) = some true ∧ quiet late 0 = true ∧
      quiet (holding .resident 1 false none 5 .normal 0) 0 = false ∧
      (holding .resident 1 false none 5 .full 0).fills[(0 : Column)].band = .full ∧
      (found (holding .resident 1 false none 0 .normal 0)).map (·.effective) = some 0 ∧
      (found (holding .resident 1 false none 1 .normal 0)).map (·.effective) = some 1 ∧
      2016 ≤ (holding .resident 1 false none 5 .normal 2016).journal.records.length +
        (holding .resident 1 false none 5 .normal 2016).journal.reservations := by decide
theorem witness_PresentGranted :
    let s := holding .resident 1 false none 5 .normal 2015
    let k := holding .crew 0 false none 0 .full 2035
    s.reader.sending = none ∧ s.restarting = false ∧ s.access[(0 : Column)].state = .locked ∧
      s.round.claims 0 = false ∧ s.sups[(0 : Column)].latch = .home ∧
      (moving .released .off k).sups[(0 : Column)].latch ≠ .home ∧ (found s).isSome = true ∧ (found k).isSome = true ∧
      (∀ f ∈ found s, f.host.blocked = false ∧ f.host.cls ≠ .crew ∧
        s.sups[(0 : Column)].condition = .inService ∧
        f.host.fractions.getLsbD s.profile.columns[(0 : Column)].fraction.val = true ∧
        f.host.admitsColumn 0 = true ∧ quiet s 0 = false ∧ s.fills[(0 : Column)].band ≠ .full ∧
        f.effective ≠ 0 ∧ s.journal.records.length + s.journal.reservations < 2016) ∧
      ∀ f ∈ found k, f.host.blocked = false ∧ f.host.cls = .crew ∧
        k.sups[(0 : Column)].admitsCrew = true ∧
        k.journal.records.length + k.journal.reservations < 2036 := by decide
theorem witness_GrantReportedAndOpened :
    (cycle .releasing false).access[(0 : Column)].context = some (grantOf false) ∧
      (cycle .releasing false).access[(0 : Column)].state = .releasing ∧
      (cycle .releasing false).access[(0 : Column)].cancelMark = false ∧
      (cycle .awaitOpen true).access[(0 : Column)].context = some (grantOf true) ∧
      (cycle .awaitOpen true).access[(0 : Column)].state = .awaitOpen := by decide
theorem witness_HatchClosedCompletesGrant :
    let s (service : Bool) : State :=
      (cycle .open service).modSup 0 fun p => { p with hatch := .steady false, hatchOpen := true }
    (s false).sups[(0 : Column)].hatch.level = false ∧ (s false).sups[(0 : Column)].lift.level = true ∧
      (s false).sups[(0 : Column)].condition = .inService ∧
      (s false).access[(0 : Column)].state = .open ∧
      (s false).access[(0 : Column)].context = some (grantOf false) ∧
      (s true).access[(0 : Column)].context = some (grantOf true) ∧
      (s false).sups[(0 : Column)].homeAlone = true ∧
      (moving .released .off (s true)).sups[(0 : Column)].homeAlone = false := by decide
theorem witness_HatchClosedCompletesGrant_without_grant :
    let s : State :=
      ((resting.modAccess 0 fun a => { a with state := .open, openTimer := some 90000 }).modSup 0
        fun p => { p with hatch := .steady false, hatchOpen := true })
    s.sups[(0 : Column)].hatch.level = false ∧ s.sups[(0 : Column)].lift.level = true ∧
      s.sups[(0 : Column)].condition = .inService ∧ s.access[(0 : Column)].state = .open ∧
      s.access[(0 : Column)].context = none ∧ s.sups[(0 : Column)].homeAlone = true ∧
      s.access[(0 : Column)].drainMark = false ∧
      (moving .released .off s).sups[(0 : Column)].homeAlone = false := by decide
theorem witness_AccessTimersExpire :
    let rest : State := resting.modAccess 0 fun a => { a with rest := some 5000 }
    (cycle .awaitOpen false).access[(0 : Column)].grantTimer = some 15000 ∧
      (cycle .awaitOpen false).access[(0 : Column)].state = .awaitOpen ∧
      (cycle .awaitOpen false).access[(0 : Column)].context = some (grantOf false) ∧
      (moving .released .off (cycle .awaitOpen false)).sups[(0 : Column)].homeAlone = false ∧
      (cycle .open true).access[(0 : Column)].openTimer = some 90000 ∧
      (cycle .open true).access[(0 : Column)].state = .open ∧
      (cycle .open true).sups[(0 : Column)].condition ≠ .disabled ∧
      rest.access[(0 : Column)].rest = some 5000 ∧ rest.access[(0 : Column)].state = .locked := by decide
theorem witness_HatchOpeningJudged :
    let s := resting
    s.sups[(0 : Column)].hatch.level = true ∧
      (lifted .absent none true s).sups[(0 : Column)].condition = .absent ∧
      (lifted .inService none true s).sups[(0 : Column)].lift.level = false ∧
      (withCondition .disabled none s).sups[(0 : Column)].condition = .disabled ∧
      (withCondition .disabled none s).sups[(0 : Column)].lift.level = true ∧
      s.sups[(0 : Column)].condition = .inService ∧ s.sups[(0 : Column)].lift.level = true ∧
      s.round.inStage 0 .permitted = false ∧ s.access[(0 : Column)].state = .locked ∧
      (cycle .homing false).access[(0 : Column)].state = .homing ∧
      (cycle .awaitOpen false).access[(0 : Column)].state = .awaitOpen ∧
      (cycle .awaitOpen false).access[(0 : Column)].context = some (grantOf false) ∧
      (cycle .releasing true).access[(0 : Column)].state = .releasing ∧
      (cycle .releasing true).access[(0 : Column)].context = some (grantOf true) ∧
      RoundLaw (onRound .active (some .permitted)) ∧
      (onRound .active (some .permitted)).round.active = some (entry 0 .active) ∧
      (onRound .active (some .permitted)).round.state = .open ∧
      (onRound .active (some .permitted)).round.stage = some .permitted ∧
      (onRound .active (some .permitted)).access[(0 : Column)].state = .locked := by
  unfold RoundLaw; decide
/-- Bursts on column 0 for every purpose, the column in the forced queue and not. -/
theorem witness_PutBack :
    let burst (p : Purpose) : State := measuring p [] Round.reset
    let queued : State := { burst .emptying with ranging := { (burst .emptying).ranging with queue := [3, 0] } }
    ((burst .forced).ranging.burst.map fun b => (b.column, b.purpose)) = some (0, .forced) ∧
      (after (.hatchOpened 0) (burst .forced)).ranging.queue = [0] ∧
      (after (.hatchOpened 0) queued).ranging.queue = [0] ∧
      ((after (.hatchOpened 0) queued).ranging.burst.map (·.column)) = some 3 := by decide
theorem witness_UnauthorisedLiftTaken :
    let s := resting
    s.sups[(0 : Column)].lift.level = true ∧ s.sups[(0 : Column)].condition ≠ .disabled ∧
      s.sups[(0 : Column)].permit = false ∧ s.round.claims 0 = false ∧
      s.access[(0 : Column)].state = .locked ∧
      (cycle .releasing false).access[(0 : Column)].context = some (grantOf false) ∧
      (moving .releasing .towardReleased (cycle .releasing false)).sups[(0 : Column)].homeAlone = false ∧
      (cycle .open true).access[(0 : Column)].context = some (grantOf true) ∧
      (onRound .active (some .draining)).round.entryOf 0 = some (entry 0 .active) ∧
      (onRound .active (some .draining)).sups[(0 : Column)].permit = false ∧
      (onRound .active (some .measuring)).round.stage = some .measuring ∧
      (onRound .active (some .permitted)).round.entryOf 0 = some (entry 0 .active) ∧
      (onRound .active (some .permitted)).sups[(0 : Column)].permit = false := by decide
theorem witness_PermittedLiftAndReturn :
    let up := (onRound .active (some .permitted)).modSup 0 fun p => { p with permit := true }
    let down (lateness : Nat) : State :=
      { lifted .inService none true (onRound .active (some .lifted)) with now := 1000 + lateness }
    up.round.state = .open ∧ up.sups[(0 : Column)].condition = .inService ∧
      up.sups[(0 : Column)].lift.level = true ∧ up.sups[(0 : Column)].permit = true ∧
      up.round.inStage 0 .permitted = true ∧ (down 4999).sups[(0 : Column)].lift.level = false ∧
      (down 4999).sups[(0 : Column)].hatch.level = true ∧ (down 4999).round.inStage 0 .lifted = true ∧
      (down 4999).round.liftStart = some 1000 ∧ (down 4999).now - 1000 < 5000 ∧
      5000 ≤ (down 5000).now - 1000 := by decide
theorem witness_PermittedLiftAndReturn_hatch_open :
    let down (lateness : Nat) : State :=
      { lifted .inService none false (onRound .active (some .lifted)) with now := 1000 + lateness }
    (down 4999).round.state = .open ∧ (down 4999).sups[(0 : Column)].lift.level = false ∧
      (down 4999).sups[(0 : Column)].hatch.level = false ∧ (down 4999).sups[(0 : Column)].latch = .home ∧
      RoundLaw (down 4999) ∧ (down 4999).round.active = some (entry 0 .active) ∧
      (down 4999).round.stage = some .lifted ∧ (down 4999).round.liftStart = some 1000 ∧
      (down 4999).access[(0 : Column)].state = .locked ∧ (down 4999).now - 1000 < 5000 ∧
      5000 ≤ (down 5000).now - 1000 := by
  unfold RoundLaw; decide
theorem witness_AbsentContainerReturns :
    let s (condition : Condition) (hatch : Bool) :=
      lifted condition (some .unauthorisedLift) hatch resting
    (s .disabled true).sups[(0 : Column)].lift.level = false ∧
      (s .disabled true).sups[(0 : Column)].condition = .disabled ∧
      (s .absent true).sups[(0 : Column)].condition = .absent ∧
      (s .absent true).sups[(0 : Column)].hatch.level = true ∧
      (s .absent false).sups[(0 : Column)].hatch.level = false ∧
      (s .absent false).access[(0 : Column)].state = .locked ∧
      ((after (.liftIn 1) (scanning.modSup 1 fun p =>
        { p with condition := .absent, lift := .steady false })).ranging.burst =
          scanning.ranging.burst) := by decide
theorem witness_LatchFollowsItsContacts :
    let s := resting
    let stalled (released : Bool) := s.modSup 0 fun p =>
      { p with latch := .releasing, releasedContact := .steady released }
    (s.sups[(0 : Column)].filter (.contact .home)).level ≠ false ∧
      (withCondition .disabled none s).sups[(0 : Column)].condition = .disabled ∧
      s.sups[(0 : Column)].condition ≠ .disabled ∧ s.sups[(0 : Column)].drive = .off ∧
      s.access[(0 : Column)].drainMark = false ∧ s.sups[(0 : Column)].latch = .home ∧
      (stalled true).sups[(0 : Column)].latch = .releasing ∧
      (stalled true).sups[(0 : Column)].drive = .off ∧
      ((stalled true).sups[(0 : Column)].filter (.contact .released)).level ≠ false ∧
      ((stalled false).sups[(0 : Column)].filter (.contact .released)).level ≠ true := by decide
theorem witness_TravelEndsInReport :
    let out := moving .releasing .towardReleased (cycle .releasing false)
    let home := moving .homing .towardHome (cycle .homing false)
    let draining := (moving .homing .towardHome (onRound .active (some .draining))).modAccess 0 fun a =>
      { a with state := .homing, drainMark := true }
    out.sups[(0 : Column)].travel = some 800 ∧ out.access[(0 : Column)].drainMark = false ∧
      out.sups[(0 : Column)].drive = .towardReleased ∧ out.sups[(0 : Column)].latch = .releasing ∧
      out.sups[(0 : Column)].releasedContact.level = false ∧
      out.sups[(0 : Column)].homeContact.level = false ∧
      out.access[(0 : Column)].state = .releasing ∧ out.access[(0 : Column)].cancelMark = false ∧
      out.access[(0 : Column)].context = some (grantOf false) ∧
      home.sups[(0 : Column)].drive = .towardHome ∧ home.sups[(0 : Column)].latch = .homing ∧
      home.access[(0 : Column)].state = .homing ∧
      (home.modSup 0 fun p => { p with releasedContact := .steady true }).sups[(0 : Column)].releasedContact.level
        = true ∧
      (out.modSup 0 fun p => { p with homeContact := .steady true }).sups[(0 : Column)].homeContact.level
        = true ∧
      (moving .releasing .towardReleased (cycle .open false)).access[(0 : Column)].state = .open ∧
      (moving .releasing .towardReleased (cycle .open false)).sups[(0 : Column)].latch = .releasing ∧
      (moving .homing .towardHome (cycle .open false)).sups[(0 : Column)].drive = .towardHome ∧
      (moving .homing .towardHome resting).access[(0 : Column)].state = .locked ∧
      (moving .homing .towardHome resting).access[(0 : Column)].drainMark = false ∧
      (out.modAccess 0 fun a => { a with cancelMark := true }).access[(0 : Column)].cancelMark = true ∧
      draining.sups[(0 : Column)].travel = some 800 ∧ draining.sups[(0 : Column)].latch = .homing ∧
      draining.access[(0 : Column)].state = .homing ∧
      draining.access[(0 : Column)].drainMark = true ∧ draining.round.state = .open ∧
      RoundLaw draining ∧ draining.round.active = some (entry 0 .active) ∧
      draining.round.stage = some .draining ∧ draining.alerts.entries = [] ∧
      draining.journal.records.length ≠ 1791 := by
  unfold RoundLaw; decide
theorem witness_PingsFiredAndHeard :
    let s := measuring .scan [] Round.reset
    resting.chosen ∧ resting.ranging.burst = none ∧ resting.ranging.pause = some 10000 ∧
      RangingLaw resting ∧ (∀ k ∈ resting.ranging.queue, eligible resting k = false) ∧
      eligible resting 0 = true ∧ resting.ranging.heads[(0 : Column)].skip = 0 ∧
      (scanning.ranging.burst.map fun b => (b.window, b.results.length)) = some (none, 0) ∧
      (s.ranging.burst.map fun b => (b.window, b.blanking, b.results.length)) = some (some 180, 200, 0) ∧
      (after .scanPauseExpiry { s with ranging := { s.ranging with pause := some 9 } }).ranging.pause
        = none := by
  unfold RangingLaw; decide
theorem witness_BurstResultHandedOn :
    let open_ : Round := (onRound .active (some .measuring)).round
    let s := measuring .emptying [.distance 1100, .distance 1110] open_
    (s.ranging.burst.map fun b => (b.column, b.window, b.results.length, b.purpose)) =
        some (0, some 180, 2, .emptying) ∧
      formResult s.profile.spreadTolerance [.distance 1100, .distance 1110, .distance 1140] = .success 1110 ∧
      formResult s.profile.spreadTolerance [.distance 1100, .distance 1110, .distance 1141] = .unstable ∧
      formResult s.profile.spreadTolerance [.noEcho, .distance 1110, .noEcho] = .noEcho ∧
      formResult s.profile.spreadTolerance [.distance 340, .distance 345, .distance 350] = .success 345 ∧
      convertFill 1900 350 345 = 200 ∧ s.journal.records.length ≠ 1791 ∧
      s.round.state = .open ∧ s.round.entryOf 0 = some (entry 0 .active) ∧
      s.round.stage = some .measuring ∧
      ((measuring .scan [] Round.reset).ranging.burst.map (·.purpose)) = some .scan := by decide
theorem witness_EngineChoosesNext :
    let s : State := { engine [3, 5] none with access := (cycle .open false).access.set 3 (cycle .open false).access[0] }
    s.ranging.burst = none ∧ s.ranging.queue = [3] ++ 5 :: [] ∧ (∀ k ∈ [(3 : Column)], eligible s k = false) ∧
      eligible s 5 = true ∧ (∀ k ∈ (engine [] (some 9)).ranging.queue, eligible (engine [] (some 9)) k = false) ∧
      (engine [] (some 9)).ranging.pause.isSome = true ∧ (engine [] none).ranging.pause = none ∧
      (engine [] none).ranging.heads[(engine [] none).ranging.pointer].skip ≠ 0 ∧
      eligible { s with ranging := { s.ranging with pointer := 11 } } 11 = true ∧
      s.ranging.heads[(11 : Column)].skip = 0 ∧ eligible s 0 = false ∧ ¬State.reset.chosen ∧
      Instr.clockAdvance ≠ .fullReset := by decide
theorem witness_MeasurementConvertedAndBanded :
    max 1100 (max 1110 1140) - min 1100 (min 1110 1140) ≤ 40 ∧
      40 < max 1100 (max 1110 1141) - min 1100 (min 1110 1141) ∧ 350 < 1900 ∧ 1900 ≤ 1900 ∧ 350 ≤ 350 ∧
      resting.profile.nearFull < resting.profile.full ∧
      (holding .resident 1 false none 5 .full 0).fills[(0 : Column)].band = .full := by decide

/-! Laws met by states other than reset, with a step from each. -/

theorem witness_StepKeepsListLaws :
    ∃ t, step { recorded with pending := [.ping] } = .next t ∧ AlertLaw recorded ∧
      RangingLaw recorded ∧ JournalOrderLaw recorded :=
  ⟨_, rfl, by unfold AlertLaw; decide, by unfold RangingLaw; decide, by unfold JournalOrderLaw; decide⟩
theorem witness_StepKeepsTableLaw :
    ∃ t, step { loaded false with pending := [.ping] } = .next t ∧ TableLaw (loaded false) :=
  ⟨_, rfl, by unfold TableLaw; decide +kernel⟩
theorem witness_StepKeepsPinnedBlocks :
    let s : State := { loaded true with pending := [.cardModify [0, 0, 4, 0x14, 0x7F, 0x40]] }
    (∃ t, step s = .next t) ∧ s.table.blocks[(12 : Fin 64)].pinned = true ∧
      ∀ c rest, s.pending = c :: rest → c ≠ .fullReset ∧ ∀ body, c ≠ .tableRelease body := by
  refine ⟨⟨_, rfl⟩, by decide, ?_⟩
  intro c rest h
  injection h with h _
  subst h
  exact ⟨nofun, nofun⟩
/-- On an empty queue: the byte that completes a PERIOD SET, and the one that completes a TABLE RELEASE. -/
theorem witness_StepKeepsPinnedBlocks_empty_queue :
    let held (taken : List Byte) : State :=
      ({ loaded true with host := { HostLink.reset with frame := some ⟨taken, 0⟩ } } : State).receive .host
        [.byte 0x0D]
    let heard (taken : List Byte) := (hear .host ((held taken).receiver .host) (.byte 0x0D)).2
    (held [0x03, 0x05, 0x01, 0x9D, 0x5A]).pending = [] ∧
      heard [0x03, 0x05, 0x01, 0x9D, 0x5A] = some (.periodSet [0x01, 0x9D]) ∧
      heard [0x01, 0x16, 0xE9] = some (.tableRelease []) := by decide
theorem witness_StepKeepsJournalLaw :
    ∃ t, step { cycle .awaitOpen false with pending := [.hatchOpened 0] } = .next t ∧
      JournalLaw (cycle .awaitOpen false) :=
  ⟨_, rfl, by unfold JournalLaw RoundLaw; decide⟩
theorem witness_StepKeepsPermitLaw :
    let s := (onRound .active (some .permitted)).modSup 0 fun p => { p with permit := true }
    (∃ t, step { s with pending := [.liftOut 0] } = .next t) ∧ PermitLaw s :=
  ⟨⟨_, rfl⟩, by unfold PermitLaw RoundLaw; decide⟩
theorem witness_StepKeepsLatchLaw :
    let s := moving .releasing .towardReleased (cycle .releasing false)
    (∃ t, step { s with pending := [.latchTravelTimeout 0] } = .next t) ∧ LatchLaw s :=
  ⟨⟨_, rfl⟩, by unfold LatchLaw; decide⟩
theorem witness_StepKeepsProfileLaw :
    let s := { resting with profile := { Profile.default with nearFull := 149 } }
    (∃ t, step { s with pending := [.ping] } = .next t) ∧ ProfileLaw s := by
  refine ⟨⟨_, rfl⟩, ?_⟩
  simp [ProfileLaw, Profile.default, ColumnProfile.legal, ColumnProfile.default]

end Sys2Proof.Tests
end

section
/-! Proofs, CardLookup: the slot that holds a card number, what a lookup finds there, and what a rewritten slot or block leaves of the table. -/

namespace Sys2Proof.Proofs.CardTables

open Sys2Proof Sys2Proof.Machine

/-! ### Blocks and slots -/

/-- Slot `i` of block `b` is used and holds entry `e`. -/
def Holds (t : CardTable) (b : Fin 64) (i : Nat) (e : Entry) : Prop :=
  t.blocks[b].entries[i]? = some e

/-- The card numbers of one block. -/
def blockCards (t : CardTable) (b : Fin 64) : List CardNumber :=
  t.blocks[b].entries.map (·.host.card)

theorem Holds.mem {t : CardTable} {b : Fin 64} {i : Nat} {e : Entry} (h : Holds t b i e) :
    e ∈ t.blocks[b].entries := List.mem_of_getElem? h

theorem set_block_self (v : Vector Block 64) (b : Fin 64) (x : Block) : (v.set b x)[b] = x := by
  simp

theorem set_block_other (v : Vector Block 64) {b k : Fin 64} (x : Block) (h : k ≠ b) :
    (v.set b x)[k] = v[k] := by
  have h' : b.val ≠ k.val := fun e => h (Fin.ext e.symm)
  simp [h']

theorem modBlocks_block (t : CardTable) (p : Fin 64 → Bool) (f : Block → Block) (b : Fin 64) :
    (t.modBlocks p f).blocks[b] = if p b then f t.blocks[b] else t.blocks[b] := by
  simp [CardTable.modBlocks]

theorem modBlocks_staged (t : CardTable) (p : Fin 64 → Bool) (f : Block → Block) :
    (t.modBlocks p f).staged = t.staged := by simp only [CardTable.modBlocks]

theorem modBlocks_provisional (t : CardTable) (p : Fin 64 → Bool) (f : Block → Block) :
    (t.modBlocks p f).provisional = t.provisional := by simp only [CardTable.modBlocks]

/-- A rewritten slot leaves the pins. -/
theorem setEntry_pinned (t : CardTable) (b k : Fin 64) (i : Nat) (e : Entry) :
    (t.setEntry b i e).blocks[k].pinned = t.blocks[k].pinned := by
  by_cases h : k = b
  · subst h; simp [CardTable.setEntry]
  · simp only [CardTable.setEntry, set_block_other _ _ h]

/-- The entries of the block of a rewritten slot. -/
theorem setEntry_entries_self (t : CardTable) (b : Fin 64) (i : Nat) (e : Entry) :
    (t.setEntry b i e).blocks[b].entries = t.blocks[b].entries.set i e := by
  simp [CardTable.setEntry]

/-- A rewritten slot leaves the other blocks. -/
theorem setEntry_other (t : CardTable) {b k : Fin 64} (i : Nat) (e : Entry) (h : k ≠ b) :
    (t.setEntry b i e).blocks[k] = t.blocks[k] := set_block_other _ _ h

/-! ### Card numbers -/

/-- No number stands twice exactly if none does within a block and no two blocks share one. -/
theorem cards_nodup_iff (t : CardTable) :
    t.cards.Nodup ↔ (∀ b, (blockCards t b).Nodup) ∧
      ∀ b k, b ≠ k → (blockCards t b).Disjoint (blockCards t k) := by
  show (List.flatMap (blockCards t) (List.finRange 64)).Nodup ↔ _
  rw [List.nodup_flatMap]
  refine and_congr (by simp) ⟨fun h b k hne => ?_, fun h => ?_⟩
  · rcases lt_or_gt_of_ne hne with hlt | hlt
    · simpa [Function.onFun] using List.pairwise_iff_getElem.mp h b k (by simp) (by simp) hlt
    · simpa [Function.onFun] using
        (List.pairwise_iff_getElem.mp h k b (by simp) (by simp) hlt).symm
  · exact (List.nodup_finRange 64).pairwise_of_forall_ne fun b _ k _ hne => h b k hne

theorem mem_cards_iff (t : CardTable) (n : CardNumber) :
    n ∈ t.cards ↔ ∃ b, n ∈ blockCards t b := by
  simp [CardTable.cards, blockCards]

/-- A slot whose new entry has the old card number leaves every block's numbers. -/
theorem blockCards_setEntry {t : CardTable} {b : Fin 64} {i : Nat} {e f : Entry} (h : Holds t b i e)
    (hc : f.host.card = e.host.card) (k : Fin 64) :
    blockCards (t.setEntry b i f) k = blockCards t k := by
  by_cases hk : k = b
  · subst hk
    obtain ⟨hi, he⟩ := List.getElem?_eq_some_iff.mp h
    have hself : f.host.card = (t.blocks[k].entries.map (·.host.card))[i]'(by simpa using hi) := by
      rw [List.getElem_map, he, hc]
    rw [blockCards, setEntry_entries_self, List.map_set, hself, List.set_getElem_self, blockCards]
  · simp only [blockCards, setEntry_other _ _ _ hk]

/-- Tables whose blocks hold the same numbers hold the same numbers. -/
theorem cards_congr {t u : CardTable} (h : ∀ b, blockCards u b = blockCards t b) :
    u.cards = t.cards := List.flatMap_congr fun b _ => h b

/-- Two used slots with one card number are one slot, the table holding no number twice. -/
theorem holds_unique {t : CardTable} (hn : t.cards.Nodup) {b k : Fin 64} {i j : Nat} {e f : Entry}
    (he : Holds t b i e) (hf : Holds t k j f) (hc : e.host.card = f.host.card) :
    b = k ∧ i = j ∧ e = f := by
  obtain ⟨hin, hout⟩ := (cards_nodup_iff t).mp hn
  have hb : b = k := by
    by_contra hne
    exact hout b k hne (List.mem_map_of_mem he.mem) (hc ▸ List.mem_map_of_mem hf.mem)
  subst hb
  have hlt : i < (blockCards t b).length := by
    simpa [blockCards] using (List.getElem?_eq_some_iff.mp he).1
  have hij : i = j := by
    refine (List.getElem?_inj hlt (hin b)).mp ?_
    have he' : t.blocks[b].entries[i]? = some e := he
    have hf' : t.blocks[b].entries[j]? = some f := hf
    rw [blockCards, List.getElem?_map, List.getElem?_map, he', hf', Option.map_some,
      Option.map_some, hc]
  subst hij
  exact ⟨rfl, rfl, Option.some.inj (he.symm.trans hf)⟩

/-! ### Lookup (R22, R42) -/

/-- What a search finds stands in its slot under the number searched. -/
theorem find_holds {t : CardTable} {card : CardNumber} {b : Fin 64} {i : Nat} {e : Entry}
    (h : t.find card = some (b, i, e)) : Holds t b i e ∧ e.host.card = card := by
  unfold CardTable.find at h
  split at h
  · cases h
  · obtain ⟨k, -, hk⟩ := List.exists_of_findSome?_eq_some h
    split at hk
    · cases hk
    · rename_i j hj
      obtain ⟨hlt, hcard, -⟩ := List.findIdx?_eq_some_iff_getElem.mp hj
      rw [List.getElem?_eq_getElem hlt] at hk
      cases hk
      exact ⟨List.getElem?_eq_getElem hlt, by simpa using hcard⟩

/-- A number that no used slot holds is not found. -/
theorem find_absent {t : CardTable} {card : CardNumber}
    (h : ∀ b : Fin 64, ∀ e ∈ t.blocks[b].entries, e.host.card ≠ card) : t.find card = none := by
  match hf : t.find card with
  | none => rfl
  | some (b, i, e) =>
    obtain ⟨hh, hc⟩ := find_holds hf
    exact absurd hc (h b e hh.mem)

/-- Number 0 is not found. -/
theorem find_zero (t : CardTable) : t.find 0 = none := if_pos rfl

/-- The slot that holds a number is found, the table holding no number twice. -/
theorem find_held {t : CardTable} {card : CardNumber} (h0 : card ≠ 0) (hn : t.cards.Nodup)
    {b : Fin 64} {i : Nat} {e : Entry} (h : Holds t b i e) (hc : e.host.card = card) :
    t.find card = some (b, i, e) := by
  match hf : t.find card with
  | none =>
    exfalso
    rw [CardTable.find, if_neg h0, List.findSome?_eq_none_iff] at hf
    have hb := hf b (List.mem_finRange b)
    split at hb
    · rename_i hnone
      exact absurd (List.findIdx?_eq_none_iff.mp hnone e h.mem) (by simp [hc])
    · rename_i j hj
      obtain ⟨hlt, -, -⟩ := List.findIdx?_eq_some_iff_getElem.mp hj
      rw [List.getElem?_eq_getElem hlt] at hb
      cases hb
  | some (k, j, f) =>
    obtain ⟨hf', hfc⟩ := find_holds hf
    obtain ⟨rfl, rfl, rfl⟩ := holds_unique hn h hf' (hc.trans hfc.symm)
    rfl

/-- Outside provisional access a lookup is a search. -/
theorem lookup_find {t : CardTable} (h : t.provisional = false) (card : CardNumber) :
    t.lookup card = t.find card := by
  simp [CardTable.lookup, h]

/-- What a lookup finds stands in its slot under the number searched. -/
theorem lookup_holds {t : CardTable} {card : CardNumber} {b : Fin 64} {i : Nat} {e : Entry}
    (h : t.lookup card = some (b, i, e)) : Holds t b i e ∧ e.host.card = card := by
  unfold CardTable.lookup at h
  split at h
  · cases h
  · exact find_holds h

/-- No slot is found while provisional access is in force, nor for a number that no used slot holds. -/
theorem lookup_absent {t : CardTable} {card : CardNumber}
    (h : t.provisional = true ∨ ∀ b : Fin 64, ∀ e ∈ t.blocks[b].entries, e.host.card ≠ card) :
    t.lookup card = none := by
  unfold CardTable.lookup
  split
  · rfl
  · rename_i hp
    exact find_absent (h.resolve_left hp)

/-- A lookup finds the slot that holds a number. -/
theorem lookup_held {t : CardTable} {card : CardNumber} (h0 : card ≠ 0)
    (hp : t.provisional = false) (hn : t.cards.Nodup) {b : Fin 64} {i : Nat} {e : Entry}
    (h : Holds t b i e) (hc : e.host.card = card) : t.lookup card = some (b, i, e) :=
  (lookup_find hp card).trans (find_held h0 hn h hc)

end Sys2Proof.Proofs.CardTables
end

section
/-! Proofs, TableMoves: the moves of which every change of the card table is made, TABLE RELEASE and a full reset apart, and what each move keeps. -/

namespace Sys2Proof.Proofs.CardTables

open Sys2Proof Sys2Proof.Machine

/-! ### The moves -/

/-- One change of the card table that a rule allows at any time. -/
inductive TableMove (t : CardTable) : CardTable → Prop where
  /-- A charge, a refund or a use count: the dynamic fields of one entry (R52, R53, R23). -/
  | use (b : Fin 64) (i : Nat) (e f : Entry) (held : Holds t b i e) (host : f.host = e.host)
      (room : e.remaining ≤ e.host.allowance → f.remaining ≤ e.host.allowance) :
      TableMove t (t.setEntry b i f)
  /-- CARD MODIFY: the permission set of one entry, on a pinned block only left or blocked (R37, R40). -/
  | permit (b : Fin 64) (i : Nat) (e : Entry) (new : BitVec 7) (held : Holds t b i e)
      (free : t.blocks[b].pinned = true →
        new = e.host.permissions ∨ new = withBlocked e.host.permissions) :
      TableMove t (t.setEntry b i (e.setPermissions new))
  /-- The staging block filled or emptied (R26, R34). -/
  | stage (l : List RawEntry) (room : l.length ≤ 64) : TableMove t { t with staged := l }
  /-- An accepted commit of an unpinned block (R27, R28). -/
  | commit (b : Fin 64) (unpinned : t.blocks[b].pinned = false)
      (valid : ∀ r ∈ t.staged, r.valid = true) (fresh : ∀ i, ¬offends t b t.staged i) :
      TableMove t (t.commit b)
  /-- TABLE ERASE of an unpinned range (R31). -/
  | erase (p : Fin 64 → Bool) (unpinned : ∀ b, p b = true → t.blocks[b].pinned = false) :
      TableMove t (t.modBlocks p fun b => { b with entries := [] })
  /-- TABLE PIN (R36). -/
  | pin (p : Fin 64 → Bool) : TableMove t (t.modBlocks p fun b => { b with pinned := true })

/-- Any number of moves, one after the other. -/
abbrev TableMoves : CardTable → CardTable → Prop := Relation.ReflTransGen TableMove

theorem TableMoves.of_eq {t u : CardTable} (h : u = t) : TableMoves t u := h ▸ .refl

/-- What every move keeps is kept by any number of them. -/
theorem TableMoves.keep {P : CardTable → Prop} (step : ∀ t u, TableMove t u → P t → P u)
    {t u : CardTable} (h : TableMoves t u) (ht : P t) : P u := by
  induction h with
  | refl => exact ht
  | tail _ hm ih => exact step _ _ hm ih

/-! ### Permission sets (R37, R40) -/

/-- The low six bits of a permission set are the fractions. -/
theorem permissions_fractions (h : HostFields) : h.permissions.setWidth 6 = h.fractions := by
  show BitVec.setWidth 6 (BitVec.ofBool h.blocked ++ h.fractions : BitVec (1 + 6)) = _
  rw [BitVec.setWidth_append]
  simp

/-- Bit 6 of a permission set is the blocked flag. -/
theorem permissions_blocked (h : HostFields) : h.permissions.getLsbD 6 = h.blocked := by
  show (BitVec.ofBool h.blocked ++ h.fractions : BitVec (1 + 6)).getLsbD 6 = _
  rw [BitVec.getLsbD_append]
  cases h.blocked <;> rfl

/-- An entry given the permission set it has is left as it is. -/
theorem setPermissions_same (e : Entry) : e.setPermissions e.host.permissions = e := by
  rw [Entry.setPermissions, permissions_fractions, permissions_blocked]

/-- Adding blocked to its permission set blocks an entry and does nothing else. -/
theorem setPermissions_withBlocked (e : Entry) :
    e.setPermissions (withBlocked e.host.permissions) =
      { e with host := { e.host with blocked := true } } := by
  have hf : (withBlocked e.host.permissions).setWidth 6 = e.host.fractions := by
    rw [withBlocked, BitVec.setWidth_or, permissions_fractions]
    simp
  have hb : (withBlocked e.host.permissions).getLsbD 6 = true := by
    rw [withBlocked, BitVec.getLsbD_or, permissions_blocked]
    simp
  rw [Entry.setPermissions, hf, hb]

/-! ### The card table's law (R19, R28, R41, R54) -/

/-- The law of the card table as one of the table alone. -/
def TableOk (t : CardTable) : Prop :=
  t.cards.Nodup ∧ (0 : CardNumber) ∉ t.cards ∧ t.staged.length ≤ 64 ∧
    (∀ b : Fin 64, t.blocks[b].entries.length ≤ 64) ∧
    (t.provisional = true → t.cards = []) ∧
    (∀ b : Fin 64, ∀ e ∈ t.blocks[b].entries, e.remaining ≤ e.host.allowance)

theorem tableLaw_iff (s : State) : TableLaw s ↔ TableOk s.table := Iff.rfl

/-- A slot rewritten with its card number kept and its remaining within the allowance keeps the law. -/
theorem tableOk_setEntry {t : CardTable} {b : Fin 64} {i : Nat} {e f : Entry} (held : Holds t b i e)
    (card : f.host.card = e.host.card) (room : f.remaining ≤ f.host.allowance) (h : TableOk t) :
    TableOk (t.setEntry b i f) := by
  obtain ⟨hnodup, hzero, hstaged, hlength, hprov, hroom⟩ := h
  have hcards : (t.setEntry b i f).cards = t.cards := cards_congr (blockCards_setEntry held card)
  refine ⟨hcards ▸ hnodup, hcards ▸ hzero, hstaged, fun k => ?_, hcards ▸ hprov, fun k g hg => ?_⟩
  · by_cases hk : k = b
    · subst hk
      rw [setEntry_entries_self, List.length_set]
      exact hlength k
    · rw [setEntry_other _ _ _ hk]
      exact hlength k
  · by_cases hk : k = b
    · subst hk
      rw [setEntry_entries_self] at hg
      rcases List.mem_or_eq_of_mem_set hg with hg | rfl
      · exact hroom k g hg
      · exact room
    · rw [setEntry_other _ _ _ hk] at hg
      exact hroom k g hg

/-- A block's content kept or emptied, wherever it is, keeps the law, whatever is staged. -/
theorem tableOk_shrink {t u : CardTable} (staged : u.staged.length ≤ 64)
    (provisional : u.provisional = t.provisional)
    (entries : ∀ b : Fin 64,
      u.blocks[b].entries = t.blocks[b].entries ∨ u.blocks[b].entries = [])
    (h : TableOk t) : TableOk u := by
  obtain ⟨hnodup, hzero, -, hlength, hprov, hroom⟩ := h
  have hsub : u.cards.Sublist t.cards := List.Sublist.flatMap_right _ fun b _ => by
    rcases entries b with hb | hb <;> simp only [hb]
    · exact .refl _
    · exact List.nil_sublist _
  refine ⟨hnodup.sublist hsub, fun h0 => hzero (hsub.subset h0), staged, fun b => ?_,
    fun hp => ?_, fun b e he => ?_⟩
  · rcases entries b with hb | hb <;> rw [hb]
    · exact hlength b
    · exact Nat.zero_le _
  · exact List.sublist_nil.mp (hprov (provisional ▸ hp) ▸ hsub)
  · rcases entries b with hb | hb <;> rw [hb] at he
    · exact hroom b e he
    · cases he

/-- Blocks changed with their entries kept or dropped keep the law. -/
theorem tableOk_modBlocks {t : CardTable} (p : Fin 64 → Bool) {f : Block → Block}
    (entries : ∀ b, (f b).entries = b.entries ∨ (f b).entries = []) (h : TableOk t) :
    TableOk (t.modBlocks p f) := by
  have ⟨_, _, hstaged, _⟩ := h
  refine tableOk_shrink (by rwa [modBlocks_staged]) (modBlocks_provisional t p f) (fun b => ?_) h
  rw [modBlocks_block]
  cases p b
  · exact .inl rfl
  · exact entries _

/-- A carried-over entry has the host-loaded fields delivered (R29). -/
theorem carryOver_host (old : List Entry) (r : RawEntry) : (carryOver old r).host = r.fields := by
  unfold carryOver; split <;> rfl

/-- A carried-over entry has at most its allowance left (R29, R54). -/
theorem carryOver_room (old : List Entry) (r : RawEntry) :
    (carryOver old r).remaining ≤ (carryOver old r).host.allowance := by
  unfold carryOver; split
  · exact Nat.min_le_right _ _
  · exact Nat.le_refl _

/-- A valid entry has a card number (R27). -/
theorem valid_card {r : RawEntry} (h : r.valid = true) : r.card ≠ 0 := by
  simp only [RawEntry.valid, Bool.and_eq_true, decide_eq_true_eq] at h
  exact h.1.1.1.1.1.1.1

/-- The committed block holds the numbers staged. -/
theorem blockCards_commit_self (t : CardTable) (b : Fin 64) :
    blockCards (t.commit b) b = t.staged.map (·.card) := by
  simp only [blockCards, CardTable.commit, set_block_self, List.map_map]
  exact List.map_congr_left fun r _ => by simp [carryOver_host, RawEntry.fields]

/-- A commit leaves the other blocks. -/
theorem commit_other (t : CardTable) {b k : Fin 64} (h : k ≠ b) :
    (t.commit b).blocks[k] = t.blocks[k] := set_block_other _ _ h

/-- No staged number stands twice where none offends (R27). -/
theorem staged_nodup {t : CardTable} {b : Fin 64} {staged : List RawEntry}
    (fresh : ∀ i, ¬offends t b staged i) : (staged.map (·.card)).Nodup := by
  rw [List.nodup_iff_getElem?_ne_getElem?]
  intro j i hji hi heq
  have hi' : i < staged.length := by simpa using hi
  refine fresh i ⟨staged[i], List.getElem?_eq_getElem hi', .inl ⟨j, hji, staged[j], ?_, ?_⟩⟩
  · exact List.getElem?_eq_getElem (by omega)
  · simpa [List.getElem?_map, List.getElem?_eq_getElem hi',
      List.getElem?_eq_getElem (Nat.lt_trans hji hi')] using heq

/-- No other block holds a staged number where none offends (R27). -/
theorem staged_disjoint {t : CardTable} {b k : Fin 64} {staged : List RawEntry}
    (fresh : ∀ i, ¬offends t b staged i) (hk : k ≠ b) :
    (blockCards t k).Disjoint (staged.map (·.card)) := by
  intro n hn hs
  obtain ⟨e, he, rfl⟩ := List.mem_map.mp hn
  obtain ⟨r, hr, hc⟩ := List.mem_map.mp hs
  obtain ⟨i, hi⟩ := List.mem_iff_getElem?.mp hr
  exact fresh i ⟨r, hi, .inr ⟨k, hk, e, he, hc.symm⟩⟩

/-- An accepted commit keeps the law (R27, R28). -/
theorem tableOk_commit {t : CardTable} {b : Fin 64} (valid : ∀ r ∈ t.staged, r.valid = true)
    (fresh : ∀ i, ¬offends t b t.staged i) (h : TableOk t) : TableOk (t.commit b) := by
  obtain ⟨hnodup, hzero, hstaged, hlength, -, hroom⟩ := h
  obtain ⟨hin, hout⟩ := (cards_nodup_iff t).mp hnodup
  have hother : ∀ k, k ≠ b → blockCards (t.commit b) k = blockCards t k := fun k hk => by
    rw [blockCards, commit_other t hk, blockCards]
  refine ⟨(cards_nodup_iff _).mpr ⟨fun k => ?_, fun k l hkl => ?_⟩, fun h0 => ?_, hstaged,
    fun k => ?_, nofun, fun k e he => ?_⟩
  · by_cases hk : k = b
    · subst hk; rw [blockCards_commit_self]; exact staged_nodup fresh
    · rw [hother k hk]; exact hin k
  · by_cases hk : k = b
    · subst hk
      rw [blockCards_commit_self, hother l hkl.symm]
      exact (staged_disjoint fresh hkl.symm).symm
    · by_cases hl : l = b
      · subst hl
        rw [blockCards_commit_self, hother k hk]
        exact staged_disjoint fresh hk
      · rw [hother k hk, hother l hl]; exact hout k l hkl
  · obtain ⟨k, hk0⟩ := (mem_cards_iff _ _).mp h0
    by_cases hk : k = b
    · subst hk
      rw [blockCards_commit_self] at hk0
      obtain ⟨r, hr, hr0⟩ := List.mem_map.mp hk0
      exact valid_card (valid r hr) hr0
    · exact hzero ((mem_cards_iff _ _).mpr ⟨k, hother k hk ▸ hk0⟩)
  · by_cases hk : k = b
    · subst hk
      simpa only [CardTable.commit, set_block_self, List.length_map] using hstaged
    · rw [commit_other t hk]; exact hlength k
  · by_cases hk : k = b
    · subst hk
      simp only [CardTable.commit, set_block_self] at he
      obtain ⟨r, -, rfl⟩ := List.mem_map.mp he
      exact carryOver_room _ _
    · rw [commit_other t hk] at he; exact hroom k e he

/-- Every move keeps the card table's law. -/
theorem tableMove_keeps_tableOk (t u : CardTable) (h : TableMove t u) (ht : TableOk t) :
    TableOk u := by
  have ⟨_, _, _, _, _, hroom⟩ := ht
  cases h with
  | use b i e f held host room =>
    exact tableOk_setEntry held (by rw [host]) (by rw [host]; exact room (hroom b e held.mem)) ht
  | permit b i e new held free =>
    exact tableOk_setEntry held rfl (hroom b e held.mem) ht
  | stage l room => exact tableOk_shrink (t := t) room rfl (fun _ => .inl rfl) ht
  | commit b unpinned valid fresh => exact tableOk_commit valid fresh ht
  | erase p unpinned => exact tableOk_modBlocks p (fun _ => .inr rfl) ht
  | pin p => exact tableOk_modBlocks p (fun _ => .inl rfl) ht

/-! ### Pinned blocks (R37) -/

/-- R37 as a law of a change of the table. -/
def PinsKept (t u : CardTable) : Prop :=
  ∀ b : Fin 64, t.blocks[b].pinned = true →
    u.blocks[b].pinned = true ∧
      List.Forall₂ HostFields.pinnedStep (t.blocks[b].entries.map (·.host))
        (u.blocks[b].entries.map (·.host))

theorem pinnedKept_iff (s t : State) : PinnedKept s t ↔ PinsKept s.table t.table := Iff.rfl

theorem forall₂_pinnedStep_refl (l : List HostFields) : List.Forall₂ HostFields.pinnedStep l l :=
  List.forall₂_same.mpr fun _ _ => .inl rfl

/-- A card once blocked stays blocked: two steps are one. -/
theorem pinnedStep_trans {a b c : HostFields} (hab : a.pinnedStep b) (hbc : b.pinnedStep c) :
    a.pinnedStep c := by
  rcases hab with rfl | ⟨hclear, rfl⟩
  · exact hbc
  · rcases hbc with rfl | ⟨hset, -⟩
    · exact .inr ⟨hclear, rfl⟩
    · cases hset

theorem forall₂_pinnedStep_trans {k l m : List HostFields}
    (hkl : List.Forall₂ HostFields.pinnedStep k l) (hlm : List.Forall₂ HostFields.pinnedStep l m) :
    List.Forall₂ HostFields.pinnedStep k m := by
  induction hkl generalizing m with
  | nil => exact hlm
  | cons hab _ ih =>
    cases hlm with
    | cons hbc hrest => exact .cons (pinnedStep_trans hab hbc) (ih hrest)

/-- One element changed as a relation allows changes the list as it allows. -/
theorem forall₂_set {α : Type} {R : α → α → Prop} (hrefl : ∀ a, R a a) {l : List α} {i : Nat}
    {a b : α} (ha : l[i]? = some a) (hab : R a b) : List.Forall₂ R l (l.set i b) := by
  induction l generalizing i with
  | nil => cases ha
  | cons x l ih =>
    cases i with
    | zero =>
      cases ha
      exact .cons hab (List.forall₂_same.mpr fun y _ => hrefl y)
    | succ i => exact .cons (hrefl x) (ih ha)

theorem PinsKept.refl (t : CardTable) : PinsKept t t :=
  fun _ hb => ⟨hb, forall₂_pinnedStep_refl _⟩

theorem PinsKept.trans {t u v : CardTable} (htu : PinsKept t u) (huv : PinsKept u v) :
    PinsKept t v := fun b hb => by
  obtain ⟨hub, hstep⟩ := htu b hb
  obtain ⟨hvb, hstep'⟩ := huv b hub
  exact ⟨hvb, forall₂_pinnedStep_trans hstep hstep'⟩

/-- A slot rewritten within R37 where its block is pinned keeps the pinned blocks. -/
theorem pinsKept_setEntry {t : CardTable} {b : Fin 64} {i : Nat} {e f : Entry} (held : Holds t b i e)
    (hstep : t.blocks[b].pinned = true → e.host.pinnedStep f.host) :
    PinsKept t (t.setEntry b i f) := by
  intro k hk
  refine ⟨setEntry_pinned t b k i f ▸ hk, ?_⟩
  by_cases hkb : k = b
  · subst hkb
    have held' : t.blocks[k].entries[i]? = some e := held
    rw [setEntry_entries_self, List.map_set]
    exact forall₂_set (fun _ => .inl rfl) (by rw [List.getElem?_map, held']; rfl) (hstep hk)
  · rw [setEntry_other _ _ _ hkb]
    exact forall₂_pinnedStep_refl _

/-- A change that leaves the entries and the pin of every pinned block keeps the pinned blocks. -/
theorem pinsKept_of_blocks {t u : CardTable}
    (h : ∀ b : Fin 64, t.blocks[b].pinned = true →
      u.blocks[b].pinned = true ∧ u.blocks[b].entries = t.blocks[b].entries) : PinsKept t u :=
  fun b hb => ⟨(h b hb).1, (h b hb).2 ▸ forall₂_pinnedStep_refl _⟩

/-- A permission set left, or with blocked added, is a step that R37 allows. -/
theorem pinnedStep_setPermissions {e : Entry} {new : BitVec 7}
    (h : new = e.host.permissions ∨ new = withBlocked e.host.permissions) :
    e.host.pinnedStep (e.setPermissions new).host := by
  rcases h with rfl | rfl
  · rw [setPermissions_same]; exact .inl rfl
  · rw [setPermissions_withBlocked]
    cases hb : e.host.blocked with
    | true => exact .inl (by simp [← hb])
    | false => exact .inr ⟨hb, rfl⟩

/-- Every move keeps the pinned blocks. -/
theorem tableMove_keeps_pins (t u : CardTable) (h : TableMove t u) : PinsKept t u := by
  cases h with
  | use b i e f held host room => exact pinsKept_setEntry held fun _ => .inl host
  | permit b i e new held free =>
    exact pinsKept_setEntry held fun hb => pinnedStep_setPermissions (free hb)
  | stage l room => exact PinsKept.refl _
  | commit b unpinned valid fresh =>
    refine pinsKept_of_blocks fun k hk => ?_
    have hkb : k ≠ b := by rintro rfl; rw [unpinned] at hk; cases hk
    rw [commit_other t hkb]
    exact ⟨hk, rfl⟩
  | erase p unpinned =>
    refine pinsKept_of_blocks fun k hk => ?_
    rw [modBlocks_block, if_neg fun hp => by rw [unpinned k hp] at hk; cases hk]
    exact ⟨hk, rfl⟩
  | pin p =>
    refine pinsKept_of_blocks fun k hk => ?_
    rw [modBlocks_block]
    split
    · exact ⟨rfl, rfl⟩
    · exact ⟨hk, rfl⟩

/-- Any number of moves keeps the card table's law. -/
theorem TableMoves.tableOk {t u : CardTable} (h : TableMoves t u) (ht : TableOk t) : TableOk u :=
  h.keep tableMove_keeps_tableOk ht

/-- Any number of moves keeps the pinned blocks. -/
theorem TableMoves.pinsKept {t u : CardTable} (h : TableMoves t u) : PinsKept t u :=
  h.keep (P := PinsKept t) (fun _ _ hm hp => hp.trans (tableMove_keeps_pins _ _ hm)) (.refl t)

end Sys2Proof.Proofs.CardTables
end

section
/-! Proofs, TableOperations: the moves that each shared operation makes on the card table; an operation that is not named here leaves it as it is. -/

namespace Sys2Proof.Proofs.CardTables

open Sys2Proof Sys2Proof.Machine

variable (s : State) (c : Column)

theorem chooseNext_table : (chooseNext s).table = s.table := by simp

/-! ### Charge, refund and use count (R23, R52, R53) -/

/-- A charge spends of what is left or of the allowance. -/
theorem charge_room (e : Entry) (period : BitVec 16) (h : e.remaining ≤ e.host.allowance) :
    (e.charge period).remaining ≤ e.host.allowance := by
  have heff : e.effective period ≤ e.host.allowance := by
    unfold Entry.effective
    split
    · omega
    · split
      · exact h
      · exact Nat.le_refl _
  simp only [Entry.charge]
  split <;> omega

/-- A refund stops at the allowance. -/
theorem refund_room (e : Entry) (h : e.remaining ≤ e.host.allowance) :
    e.refund.remaining ≤ e.host.allowance := by
  simp only [Entry.refund]
  split <;> omega

theorem charge_moves (t : CardTable) (card : CardNumber) (period : BitVec 16) :
    TableMoves t (t.charge card period).1 := by
  unfold CardTable.charge
  split
  · exact .refl
  · rename_i b i e h
    exact .single (.use b i e _ (lookup_holds h).1 rfl (charge_room e period))

theorem refund_moves (t : CardTable) (card : CardNumber) (granted current : BitVec 16) :
    TableMoves t (t.refund card granted current) := by
  unfold CardTable.refund
  split
  · exact .refl
  · rename_i b i e h
    split
    · exact .single (.use b i e _ (lookup_holds h).1 rfl (refund_room e))
    · exact .refl

theorem useCount_moves (t : CardTable) (card : CardNumber) : TableMoves t (t.useCount card) := by
  unfold CardTable.useCount
  split
  · exact .refl
  · rename_i b i e h
    exact .single (.use b i e _ (lookup_holds h).1 rfl id)

/-! ### The access machines (04) -/

theorem refundGrant_moves (g : GrantContext) : TableMoves s.table (refundGrant g s).table := by
  unfold refundGrant
  split
  · exact .refl
  · exact refund_moves s.table _ _ _

theorem undoGrant_moves : TableMoves s.table (undoGrant c s).table := by
  unfold undoGrant
  split
  · exact .refl
  · simpa using refundGrant_moves s _

theorem cutGrant_moves (v : VerdictCode) : TableMoves s.table (cutGrant c v s).table := by
  simpa [cutGrant] using undoGrant_moves (sendVerdict c v none none s) c

theorem releaseFailed_moves : TableMoves s.table (releaseFailed c s).table := by
  simpa [releaseFailed] using undoGrant_moves (sendVerdict c .fault none none s) c

/-- The release request of a grant, which over a latch that is not home fails and refunds (R5, R70). -/
theorem releaseTried_moves : TableMoves s.table
    (if releaseStarts c s then releaseRequest c s else releaseFailed c (releaseRequest c s)).table := by
  split
  · exact TableMoves.of_eq (by simp)
  · simpa using releaseFailed_moves (releaseRequest c s) c

/-- A grant charges the card, a crew card excepted, and a release that fails refunds it (R64, R70). -/
theorem makeGrant_moves (card : CardNumber) (f : Found) :
    TableMoves s.table (makeGrant c card f s).table := by
  have charged : TableMoves s.table
      (if f.host.cls = .crew then (s.table, none) else s.table.charge card s.period).1 := by
    split
    · exact .refl
    · exact charge_moves s.table card s.period
  exact charged.trans ((TableMoves.of_eq (by simp)).trans (releaseTried_moves _ c))

theorem accessReleased_moves : TableMoves s.table (accessReleased c s).table := by
  unfold accessReleased
  split
  · split
    · exact cutGrant_moves s c .cancelled
    · exact .of_eq (by simp)
  all_goals exact .refl

theorem accessFailed_moves : TableMoves s.table (accessFailed c s).table := by
  unfold accessFailed
  split
  · exact releaseFailed_moves s c
  · exact .of_eq (by simp)
  all_goals exact .refl

theorem accessReport_moves (r : Option LatchReport) :
    TableMoves s.table (accessReport c r s).table := by
  rcases r with _ | _ | _ | _
  · exact .refl
  · exact accessReleased_moves s c
  · exact .of_eq (accessHome_frame s c).2.2.2.2.2.2.2.1
  · exact accessFailed_moves s c

theorem settleOpened_moves (g : GrantContext) (interrupted increment : Bool) :
    TableMoves s.table (settleOpened c g interrupted increment s).table := by
  unfold settleOpened
  split
  · simpa [countUse] using useCount_moves s.table g.card
  · cases increment <;> simpa [countUse] using useCount_moves s.table g.card

theorem accessClosed_moves : TableMoves s.table (accessClosed c s).table := by
  unfold accessClosed
  split
  · split
    · exact .of_eq (by simp)
    · simpa using settleOpened_moves s c _ false true
  all_goals exact .refl

theorem drainRequest_moves : TableMoves s.table (drainRequest c s).table := by
  simp only [drainRequest]
  split
  · exact .of_eq (by simp)
  · simpa using cutGrant_moves (s.modAccess c fun a => { a with drainMark := true }) c .cancelled
  all_goals exact .refl

theorem accessLifted_moves : TableMoves s.table (accessLifted c s).table := by
  unfold accessLifted
  split
  · exact .refl
  · exact .refl
  · exact cutGrant_moves s c .lapsed
  · exact cutGrant_moves s c .lapsed
  · split
    · exact .of_eq (by simp)
    · simpa using settleOpened_moves s c _ true false

/-! ### Events of a column (01, 04, 06) -/

theorem takePresent_moves (card : CardNumber) : TableMoves s.table (takePresent c card s).table := by
  unfold takePresent
  split
  · exact .of_eq (by simp)
  · simpa using makeGrant_moves s c card _

theorem reportClosed_moves : TableMoves s.table (reportClosed c s).table := by
  simpa [reportClosed] using accessClosed_moves s c

theorem reportLift_moves : TableMoves s.table (reportLift c s).table := by
  simpa [reportLift] using accessLifted_moves s c

theorem takeHatch_table (closed : Bool) : (takeHatch c closed s).table = s.table := by
  simp only [takeHatch]; split <;> simp

theorem liftTaken_moves : TableMoves s.table (liftTaken c s).table := by
  simp only [liftTaken]
  split
  · exact .of_eq (by simp)
  · split
    · exact .of_eq (by simp)
    · simpa [markAbsent] using
        reportLift_moves (markAbsent c ((takeInput c .lift false s).modSup c Supervisor.ignoreHatch)) c

theorem returnTaken_table : (returnTaken c s).table = s.table := by
  simp only [returnTaken]; split <;> simp

/-- A contact judged is a matter of the supervisor alone. -/
theorem contactJudged_table : (contactJudged c s).1.table = s.table := by
  simp only [contactJudged]; repeat' split
  all_goals simp

theorem contactTaken_moves : TableMoves s.table (contactTaken c s).table := by
  simpa [contactTaken, contactJudged_table] using
    accessReport_moves (contactJudged c s).1 c (contactJudged c s).2

theorem claim_moves : TableMoves s.table (claim c s).table := by
  simp only [claim, chooseNext_frame, deliverLocked_frame]
  exact (TableMoves.of_eq (by simp)).trans (drainRequest_moves _ c)

/-! ### Ranging and rounds (05, 06) -/

theorem finishBurst_table (b : Burst) : (finishBurst b s).table = s.table := by
  unfold finishBurst handSuccess handFailure
  repeat' split
  all_goals simp

theorem closeWindow_table (b : Burst) (r : PingResult) : (closeWindow b r s).table = s.table := by
  simp only [closeWindow]
  split
  · rw [finishBurst_table]
  · rfl

theorem firePing_table : (firePing s).table = s.table := by
  unfold firePing; repeat' split
  all_goals rfl

theorem skip_table : (skip c s).table = s.table := by
  simp only [skip]; repeat' split
  all_goals simp

theorem timeOutActive_table : (timeOutActive s).table = s.table := by
  unfold timeOutActive; repeat' split
  all_goals simp

theorem abortRound_table : (abortRound s).table = s.table := by
  simp [abortRound, timeOutActive_table]

/-! ### The profile (09 9.7) -/

theorem enableColumn_table : (enableColumn c s).table = s.table := by
  simp only [enableColumn]; repeat' split
  all_goals simp

theorem switchColumn_table (before : Profile) (s : State) (x : Setting) :
    (switchColumn before s x).table = s.table := by
  simp only [switchColumn]; repeat' split
  · exact enableColumn_table s _
  · simp [disableColumn]
  · rfl

/-- What every item of a list leaves, the list leaves. -/
theorem foldl_table {α : Type} (f : State → α → State) (h : ∀ s a, (f s a).table = s.table)
    (l : List α) : (l.foldl f s).table = s.table := by
  induction l generalizing s with
  | nil => rfl
  | cons a l ih => rw [List.foldl_cons, ih, h]

theorem applySettings_table (xs : List Setting) : (applySettings xs s).table = s.table := by
  simp only [applySettings, chooseNext_frame]
  unfold rejudgeBands
  split
  · rw [foldl_table _ _ (switchColumn_table _)]
  · rw [foldl_table _ _ (fun s c => by simp), foldl_table _ _ (switchColumn_table _)]

/-! ### The lines and the soft restart (09, R173) -/

theorem discardFrame_table (line : Line) : (discardFrame line s).table = s.table := by
  unfold discardFrame; repeat' split
  all_goals simp

/-- Moves made for every item of a list are moves. -/
theorem foldl_moves {α : Type} (f : State → α → State) (l : List α)
    (h : ∀ s, ∀ a ∈ l, TableMoves s.table (f s a).table) :
    TableMoves s.table (l.foldl f s).table := by
  induction l generalizing s with
  | nil => exact .refl
  | cons a l ih =>
    exact (h s a (List.mem_cons_self ..)).trans
      (ih (f s a) fun s b hb => h s b (List.mem_cons_of_mem _ hb))

theorem settleGrant_moves : TableMoves s.table (settleGrant s c).table := by
  unfold settleGrant
  split
  · exact .refl
  · split
    · exact undoGrant_moves s c
    · exact undoGrant_moves s c
    · exact settleOpened_moves s c _ true true
    all_goals exact .refl

theorem restartSupervisor_table : (restartSupervisor s c).table = s.table := by
  simp only [restartSupervisor]; split <;> simp

theorem restartAccess_table : (restartAccess s c).table = s.table := by
  simp only [restartAccess]; split <;> simp

theorem restartRound_table : (restartRound s).table = s.table := by
  unfold restartRound; split <;> simp

/-- A transfer closed empties the staging block. -/
theorem closeTransfer_moves : TableMoves s.table (closeTransfer s).table :=
  .single (.stage [] (Nat.zero_le _))

/-- Each block's event of a soft restart makes moves (R173). -/
theorem restartBlocks_moves (block : State → State) (h : block ∈ restartBlocks) :
    TableMoves s.table (block s).table := by
  simp only [restartBlocks, List.mem_cons, List.not_mem_nil, or_false] at h
  rcases h with rfl | rfl | rfl | rfl | rfl | rfl | rfl
  · exact .of_eq (foldl_table _ _ restartSupervisor_table _)
  · exact (foldl_moves s settleGrant _ fun s c _ => settleGrant_moves s c).trans
      (TableMoves.of_eq (foldl_table _ _ restartAccess_table _))
  · exact closeTransfer_moves s
  · exact .of_eq (restartRound_table s)
  all_goals exact .refl

theorem endRestart_table : (endRestart s).table = s.table := rfl

theorem softRestart_moves : TableMoves s.table (softRestart s).table := by
  rw [softRestart, endRestart_table]
  exact foldl_moves s _ restartBlocks fun s block h => restartBlocks_moves s block h

theorem restartNext_moves : TableMoves s.table (restartNext s).table := by
  have hmem : ∀ block rest, restartBlocks.drop s.restarted = block :: rest →
      TableMoves s.table (block s).table := fun block rest h =>
    restartBlocks_moves s block (List.mem_of_mem_drop (h ▸ List.mem_cons_self ..))
  unfold restartNext
  split
  · exact .refl
  · rename_i block h
    rw [chooseNext_table]
    exact hmem block [] h
  · rename_i block rest _ h
    rw [chooseNext_table]
    exact hmem block rest h

end Sys2Proof.Proofs.CardTables
end

section
/-! Proofs, CommitChecks: what the checks of a commit find (R27). -/

namespace Sys2Proof.Proofs.CardTables

open Sys2Proof Sys2Proof.Machine

variable (t : CardTable) (b : Fin 64)

/-! ### The first entry that offends by its card number -/

theorem heldElsewhere_iff (card : CardNumber) : t.heldElsewhere b card = true ↔
    ∃ k : Fin 64, k ≠ b ∧ ∃ e ∈ t.blocks[k].entries, e.host.card = card := by
  simp [CardTable.heldElsewhere]

/-- An entry offends by the entries before it and by the other blocks alone. -/
theorem offends_after_iff (before : List RawEntry) (r : RawEntry) (rest : List RawEntry) :
    offends t b (before ++ r :: rest) before.length ↔
      ((before.reverse.map (·.card)).contains r.card || t.heldElsewhere b r.card) = true := by
  have hr : (before ++ r :: rest)[before.length]? = some r := by simp
  have hbefore : (∃ j, j < before.length ∧ ∃ q, (before ++ r :: rest)[j]? = some q ∧
      q.card = r.card) ↔ (before.reverse.map (·.card)).contains r.card = true := by
    rw [List.contains_iff_mem, List.mem_map]
    constructor
    · rintro ⟨j, hj, q, hq, hc⟩
      rw [List.getElem?_append_left hj] at hq
      exact ⟨q, List.mem_reverse.mpr (List.mem_of_getElem? hq), hc⟩
    · rintro ⟨q, hmem, hc⟩
      obtain ⟨j, hq⟩ := List.mem_iff_getElem?.mp (List.mem_reverse.mp hmem)
      have hj : j < before.length := (List.getElem?_eq_some_iff.mp hq).1
      exact ⟨j, hj, q, by rwa [List.getElem?_append_left hj], hc⟩
  rw [Bool.or_eq_true, heldElsewhere_iff, ← hbefore]
  constructor
  · rintro ⟨q, hq, h⟩
    obtain rfl : r = q := Option.some.inj (hr.symm.trans hq)
    exact h
  · exact fun h => ⟨r, hr, h⟩

/-- The search, some entries already passed, finds the first that offends from there on. -/
theorem firstDuplicate_after (before rest : List RawEntry) :
    (firstDuplicate t b (before.reverse.map (·.card)) before.length rest = none →
      ∀ i, before.length ≤ i → ¬offends t b (before ++ rest) i) ∧
    ∀ k, firstDuplicate t b (before.reverse.map (·.card)) before.length rest = some k →
      offends t b (before ++ rest) k ∧
        ∀ i, before.length ≤ i → i < k → ¬offends t b (before ++ rest) i := by
  induction rest generalizing before with
  | nil =>
    refine ⟨?_, nofun⟩
    rintro - i hi ⟨r, hr, -⟩
    rw [List.append_nil, List.getElem?_eq_none hi] at hr
    cases hr
  | cons r rest ih =>
    rw [firstDuplicate]
    by_cases hoff : offends t b (before ++ r :: rest) before.length
    · rw [if_pos ((offends_after_iff t b before r rest).mp hoff)]
      refine ⟨nofun, fun k hk => ?_⟩
      cases hk
      exact ⟨hoff, fun i hi hlt => absurd hi (by omega)⟩
    · rw [if_neg fun h => hoff ((offends_after_iff t b before r rest).mpr h)]
      have later : ∀ i, before.length ≤ i →
          (before.length + 1 ≤ i → ¬offends t b (before ++ r :: rest) i) →
          ¬offends t b (before ++ r :: rest) i := fun i hi h =>
        (Nat.eq_or_lt_of_le hi).elim (· ▸ hoff) h
      have spec := ih (before ++ [r])
      rw [List.append_assoc, List.singleton_append, List.reverse_append, List.reverse_singleton,
        List.singleton_append, List.map_cons, List.length_append, List.length_singleton] at spec
      obtain ⟨hnone, hsome⟩ := spec
      exact ⟨fun h i hi => later i hi (hnone h i), fun k hk => ⟨(hsome k hk).1,
        fun i hi hlt => later i hi fun hi' => (hsome k hk).2 i hi' hlt⟩⟩

/-- The search finds nothing exactly where no staged entry offends. -/
theorem firstDuplicate_none_iff (staged : List RawEntry) :
    firstDuplicate t b [] 0 staged = none ↔ ∀ i, ¬offends t b staged i := by
  obtain ⟨hnone, hsome⟩ := firstDuplicate_after t b [] staged
  refine ⟨fun h i => hnone h i (Nat.zero_le i), fun h => ?_⟩
  match hres : firstDuplicate t b [] 0 staged with
  | none => rfl
  | some k => exact absurd (hsome k hres).1 (h k)

/-- The search finds the first staged entry that offends. -/
theorem firstDuplicate_some {staged : List RawEntry} {i : Nat} (h : offends t b staged i)
    (hfirst : ∀ j, j < i → ¬offends t b staged j) : firstDuplicate t b [] 0 staged = some i := by
  obtain ⟨hnone, hsome⟩ := firstDuplicate_after t b [] staged
  match hres : firstDuplicate t b [] 0 staged with
  | none => exact absurd h (hnone hres i (Nat.zero_le i))
  | some k =>
    obtain ⟨hk, hbefore⟩ := hsome k hres
    rcases Nat.lt_trichotomy i k with hlt | rfl | hlt
    · exact absurd h (hbefore i (Nat.zero_le i) hlt)
    · rfl
    · exact absurd hk (hfirst k hlt)

/-! ### The checks in order -/

variable (x : Transfer)

theorem commitRefusal_pinned (h : t.blocks[x.block].pinned = true) :
    commitRefusal t x = some (answer .pinned []) := if_pos h

theorem commitRefusal_badCount (hp : t.blocks[x.block].pinned = false)
    (hn : x.delivered ≠ x.declared) :
    commitRefusal t x = some (answer .badCount [byte x.delivered]) := by
  rw [commitRefusal, hp, if_neg Bool.false_ne_true, if_pos hn]

/-- The first staged entry that is not valid is named. -/
theorem commitRefusal_badValue (hp : t.blocks[x.block].pinned = false)
    (hn : x.delivered = x.declared) {i : Nat} {r : RawEntry} (hr : t.staged[i]? = some r)
    (hv : r.valid = false) (hfirst : ∀ j q, j < i → t.staged[j]? = some q → q.valid = true) :
    commitRefusal t x = some (answer .badValue [byte i]) := by
  obtain ⟨hi, he⟩ := List.getElem?_eq_some_iff.mp hr
  have hfound : t.staged.findIdx? (fun r => !r.valid) = some i := by
    refine List.findIdx?_eq_some_iff_getElem.mpr ⟨hi, by simp [he, hv], fun j hj => ?_⟩
    simp [hfirst j _ hj (List.getElem?_eq_getElem (Nat.lt_trans hj hi))]
  rw [commitRefusal, hp, if_neg Bool.false_ne_true, if_neg (not_not_intro hn), hfound]

/-- Where every staged entry is valid, the first that offends by its card number is named. -/
theorem commitRefusal_valid (hp : t.blocks[x.block].pinned = false)
    (hn : x.delivered = x.declared) (hv : ∀ r ∈ t.staged, r.valid = true) :
    commitRefusal t x =
      (firstDuplicate t x.block [] 0 t.staged).map fun i => answer .duplicate [byte i] := by
  have hfound : t.staged.findIdx? (fun r => !r.valid) = none :=
    List.findIdx?_eq_none_iff.mpr fun r hr => by simp [hv r hr]
  rw [commitRefusal, hp, if_neg Bool.false_ne_true, if_neg (not_not_intro hn), hfound]
  cases firstDuplicate t x.block [] 0 t.staged <;> rfl

/-- A commit that no check refuses is of an unpinned block, its staged entries valid and none
offending. -/
theorem commitRefusal_none (h : commitRefusal t x = none) :
    t.blocks[x.block].pinned = false ∧ (∀ r ∈ t.staged, r.valid = true) ∧
      ∀ i, ¬offends t x.block t.staged i := by
  have hp : t.blocks[x.block].pinned = false := by
    cases hp : t.blocks[x.block].pinned with
    | false => rfl
    | true => rw [commitRefusal_pinned t x hp] at h; cases h
  have hn : x.delivered = x.declared := by
    by_contra hn
    rw [commitRefusal_badCount t x hp hn] at h; cases h
  have hv : ∀ r ∈ t.staged, r.valid = true := by
    rw [commitRefusal, hp, if_neg Bool.false_ne_true, if_neg (not_not_intro hn)] at h
    split at h
    · cases h
    · rename_i hnone
      exact fun r hr => by simpa using List.findIdx?_eq_none_iff.mp hnone r hr
  rw [commitRefusal_valid t x hp hn hv] at h
  exact ⟨hp, hv, (firstDuplicate_none_iff t x.block t.staged).mp (Option.map_eq_none_iff.mp h)⟩

end Sys2Proof.Proofs.CardTables
end

section
/-! Proofs, TableCommands: every command but TABLE RELEASE and a full reset makes moves on the card table, and what follows for a step. -/

namespace Sys2Proof.Proofs.CardTables

open Sys2Proof Sys2Proof.Machine

variable (s : State)

/-! ### A request (R162, R163) -/

/-- An event makes the moves of its effect: the choice due before it leaves the table. -/
theorem event_moves {f : State → State} {s t : State} (h : event f s = .next t)
    (effect : ∀ u, TableMoves u.table (f u).table) : TableMoves s.table t.table := by
  cases h
  have hready : s.ready.table = s.table := by simp
  exact hready ▸ effect s.ready

/-- A request makes the moves of its action. -/
theorem serve_moves (kind : Byte) {act : State → State × List Byte}
    (action : ∀ u, TableMoves u.table (act u).1.table) :
    TableMoves s.table (serve kind act s).table := by
  unfold serve
  split
  · exact .refl
  · exact action (hostFrameEnds s)

theorem request_moves {kind : Byte} {act : State → State × List Byte} {s t : State}
    (h : event (serve kind act) s = .next t) (action : ∀ u, TableMoves u.table (act u).1.table) :
    TableMoves s.table t.table :=
  event_moves h fun u => serve_moves u kind action

section
variable {s} {body : List Byte}

theorem withNoBody_moves {act : State → State × List Byte}
    (h : ∀ u, TableMoves u.table (act u).1.table) :
    TableMoves s.table (withNoBody body act s).1.table := by
  unfold withNoBody
  split
  · exact h s
  · exact .refl

theorem withByte_moves {act : Byte → State → State × List Byte}
    (h : ∀ b u, TableMoves u.table (act b u).1.table) :
    TableMoves s.table (withByte body act s).1.table := by
  unfold withByte
  split
  · exact h _ s
  · exact .refl

theorem withTwoBytes_moves {act : Byte → Byte → State → State × List Byte}
    (h : ∀ a b u, TableMoves u.table (act a b u).1.table) :
    TableMoves s.table (withTwoBytes body act s).1.table := by
  unfold withTwoBytes
  split
  · exact h _ _ s
  · exact .refl

theorem withColumn_moves {act : Column → State → State × List Byte}
    (h : ∀ c u, TableMoves u.table (act c u).1.table) :
    TableMoves s.table (withColumn body act s).1.table :=
  withByte_moves fun b u => by
    split
    · exact .refl
    · exact h _ u

theorem unlessTransfer_moves {act : State → State × List Byte}
    (h : ∀ u, TableMoves u.table (act u).1.table) :
    TableMoves s.table (unlessTransfer act s).1.table := by
  unfold unlessTransfer
  split
  · exact .refl
  · exact h s

end

/-! ### The card table's requests (02) -/

variable (body : List Byte)

theorem transferRequest_moves (kind : TransferKind) :
    TableMoves s.table (transferRequest kind body s).1.table :=
  withTwoBytes_moves fun b n _ => unlessTransfer_moves fun u => by
    split
    · exact .refl
    · split
      · exact .refl
      · exact .single (.stage [] (Nat.zero_le _))

/-- A final frame of a write transfer commits, or is refused and changes nothing (R27, R28). -/
theorem finalWrite_moves (x : Transfer) : TableMoves s.table (finalWrite x s).1.table := by
  unfold finalWrite
  split
  · exact .refl
  · rename_i h
    obtain ⟨hp, hv, hfresh⟩ := commitRefusal_none s.table x h
    exact .single (.commit x.block hp hv hfresh)

theorem finalVerify_table (x : Transfer) : (finalVerify x s).1.table = s.table := by
  unfold finalVerify; split <;> rfl

theorem tableData_moves (more : Bool) : TableMoves s.table (tableData more body s).1.table := by
  unfold tableData
  split
  · exact .refl
  · split
    · exact .refl
    · rename_i x _
      have staged : TableMoves s.table (stage x (parseEntries body) s).1.table :=
        .single (.stage _ (List.length_take_le ..))
      refine staged.trans ?_
      cases more with
      | true => exact .refl
      | false =>
        refine Relation.ReflTransGen.trans ?_ (closeTransfer_moves _)
        cases x.kind with
        | write => exact finalWrite_moves _ _
        | verify => exact TableMoves.of_eq (finalVerify_table _ _)

theorem any_pinned_range (t : CardTable) (first last : Byte) :
    (t.range first last).any (·.pinned) = true ↔
      ∃ b : Fin 64, inRange first last b = true ∧ t.blocks[b].pinned = true := by
  simp [CardTable.range]

theorem tableErase_moves : TableMoves s.table (tableErase body s).1.table :=
  withTwoBytes_moves fun first last _ => unlessTransfer_moves fun u => by
    split
    · exact .refl
    · split
      · exact .refl
      · rename_i hpinned
        refine .single (.erase (inRange first last) fun b hb => ?_)
        exact Bool.eq_false_iff.mpr fun hp => hpinned ((any_pinned_range _ _ _).mpr ⟨b, hb, hp⟩)

theorem tablePin_moves : TableMoves s.table (tablePin body s).1.table :=
  withTwoBytes_moves fun first last _ => unlessTransfer_moves fun u => by
    split
    · exact .refl
    · exact .single (.pin (inRange first last))

theorem cardModify_moves : TableMoves s.table (cardModify body s).1.table := by
  unfold cardModify
  split
  · dsimp only
    split
    · exact .refl
    · split
      · exact .refl
      · rename_i b i e h
        split
        · exact .refl
        · rename_i hfree
          refine .single (.permit b i e _ (lookup_holds h).1 fun hp => ?_)
          by_contra hne
          rw [not_or] at hne
          exact hfree ⟨hp, hne⟩
  · exact .refl

theorem cardQuery_table : (cardQuery body s).1.table = s.table := by
  simp only [cardQuery]; repeat' split
  all_goals rfl

/-! ### The requests of the other blocks -/

theorem timeSet_table : (timeSet body s).1.table = s.table := by
  simp only [timeSet]; repeat' split
  all_goals rfl

theorem profileWrite_table : (profileWrite body s).1.table = s.table := by
  unfold profileWrite
  split
  · rfl
  · split
    · rfl
    · split
      · rfl
      · exact applySettings_table s _

theorem profileRead_moves : TableMoves s.table (profileRead body s).1.table :=
  withByte_moves fun _ _ => by
    split
    · exact .refl
    · split <;> exact .refl

theorem alertFetch_moves : TableMoves s.table (alertFetch body s).1.table :=
  withByte_moves fun _ _ => by split <;> exact .refl

theorem alertFloor_moves : TableMoves s.table (alertFloor body s).1.table :=
  withByte_moves fun _ _ => by split <;> exact .refl

theorem tableSum_moves : TableMoves s.table (tableSum body s).1.table :=
  withTwoBytes_moves fun _ _ _ => by split <;> exact .refl

theorem columnService_moves : TableMoves s.table (columnService body s).1.table :=
  withColumn_moves fun _ _ => by
    split
    · exact .refl
    · split
      · exact .refl
      · exact .of_eq (by simp)

theorem columnWithdraw_moves : TableMoves s.table (columnWithdraw body s).1.table :=
  withColumn_moves fun _ _ => by split <;> exact .refl

theorem columnMeasure_moves : TableMoves s.table (columnMeasure body s).1.table :=
  withColumn_moves fun _ _ => by
    split
    · exact .refl
    · exact .of_eq (by simp)

theorem roundOpen_table : (roundOpen body s).1.table = s.table := by
  unfold roundOpen; repeat' split
  all_goals rfl

theorem roundClaim_moves : TableMoves s.table (roundClaim body s).1.table :=
  withColumn_moves fun c u => by
    split
    · exact .refl
    · exact claim_moves u c

theorem roundSkip_moves : TableMoves s.table (roundSkip body s).1.table :=
  withColumn_moves fun c u => by
    split
    · exact .refl
    · exact .of_eq (skip_table u c)

theorem roundKeep_moves : TableMoves s.table (roundKeep body s).1.table :=
  withNoBody_moves fun _ => by split <;> exact .refl

theorem roundClose_moves : TableMoves s.table (roundClose body s).1.table :=
  withNoBody_moves fun _ => by
    split
    · exact .refl
    · split
      · exact .refl
      · exact .of_eq (by simp)

theorem journalRead_moves : TableMoves s.table (journalRead body s).1.table :=
  withTwoBytes_moves fun _ _ _ => by split <;> exact .refl

theorem journalRelease_moves : TableMoves s.table (journalRelease body s).1.table :=
  withTwoBytes_moves fun _ _ _ => by dsimp only; split <;> exact .refl

/-! ### The events: each makes the moves of the operations that it calls -/

section
variable {s t : State}

theorem execFrameWhileRequestInHand_moves (h : execFrameWhileRequestInHand s = .next t) :
    TableMoves s.table t.table := by
  unfold execFrameWhileRequestInHand at h
  exact event_moves h fun _ => by split <;> exact .refl

theorem execFrameDiscard_moves {line : Line} {cause : DiscardCause}
    (h : execFrameDiscard line cause s = .next t) : TableMoves s.table t.table := by
  unfold execFrameDiscard at h
  exact event_moves h fun u => .of_eq (discardFrame_table u line)

theorem execInterbyteGap_moves {line : Line} (h : execInterbyteGap line s = .next t) :
    TableMoves s.table t.table := by
  unfold execInterbyteGap at h
  refine event_moves h fun u => ?_
  split
  · exact .refl
  · exact .of_eq (discardFrame_table _ line)

theorem execReplySent_moves (h : execReplySent s = .next t) : TableMoves s.table t.table := by
  unfold execReplySent at h
  exact event_moves h fun _ => .refl

theorem execTransferWatchExpiry_moves (h : execTransferWatchExpiry s = .next t) :
    TableMoves s.table t.table := by
  unfold execTransferWatchExpiry at h
  refine event_moves h fun u => ?_
  split
  · exact .refl
  · exact closeTransfer_moves u

theorem execPresent_moves {c : Column} {card : CardNumber} (h : execPresent c card s = .next t) :
    TableMoves s.table t.table := by
  unfold execPresent at h
  refine event_moves h fun u => ?_
  split
  · exact .refl
  · split
    · exact .of_eq (by simp)
    · simpa using takePresent_moves (readerFrameEnds u) c card

theorem execReaderFrameRejected_moves {cause : RejectCause}
    (h : execReaderFrameRejected cause s = .next t) : TableMoves s.table t.table := by
  unfold execReaderFrameRejected at h
  refine event_moves h fun u => ?_
  split
  · exact .refl
  · exact .of_eq (by simp)

theorem execVerdictSent_moves (h : execVerdictSent s = .next t) : TableMoves s.table t.table := by
  unfold execVerdictSent at h
  refine event_moves h fun u => ?_
  split
  · exact .of_eq (by simp)
  · exact .refl

theorem execClockAdvance_moves (h : execClockAdvance s = .next t) :
    TableMoves s.table t.table := by
  unfold execClockAdvance at h
  exact event_moves h fun _ => .refl

theorem execInputLevelChange_moves {c : Column} {i : Input} {closed : Bool}
    (h : execInputLevelChange c i closed s = .next t) : TableMoves s.table t.table := by
  unfold execInputLevelChange at h
  exact event_moves h fun _ => .refl

theorem execHatchOpened_moves {c : Column} (h : execHatchOpened c s = .next t) :
    TableMoves s.table t.table := by
  unfold execHatchOpened at h
  refine event_moves h fun u => .of_eq ?_
  dsimp only
  repeat' split
  all_goals simp [takeHatch_table]

theorem execHatchClosed_moves {c : Column} (h : execHatchClosed c s = .next t) :
    TableMoves s.table t.table := by
  unfold execHatchClosed at h
  refine event_moves h fun u => ?_
  dsimp only
  split
  · exact .refl
  · split
    · simpa [takeHatch_table] using reportClosed_moves (takeHatch c true u) c
    · exact .of_eq (takeHatch_table u c true)

theorem execLiftOut_moves {c : Column} (h : execLiftOut c s = .next t) :
    TableMoves s.table t.table := by
  unfold execLiftOut at h
  refine event_moves h fun u => ?_
  split
  · exact .refl
  · exact liftTaken_moves u c

theorem execLiftIn_moves {c : Column} (h : execLiftIn c s = .next t) :
    TableMoves s.table t.table := by
  unfold execLiftIn at h
  refine event_moves h fun u => ?_
  split
  · exact .of_eq (returnTaken_table u c)
  · exact .refl

theorem execLatchContactChange_moves {c : Column} {k : Contact} {made : Bool}
    (h : execLatchContactChange c k made s = .next t) : TableMoves s.table t.table := by
  unfold execLatchContactChange at h
  refine event_moves h fun u => ?_
  dsimp only
  split
  · exact .refl
  · split
    · exact .of_eq (by simp)
    · simpa using contactTaken_moves (takeInput c (.contact k) made u) c

theorem execLatchTravelTimeout_moves {c : Column} (h : execLatchTravelTimeout c s = .next t) :
    TableMoves s.table t.table := by
  unfold execLatchTravelTimeout at h
  refine event_moves h fun u => ?_
  split
  · exact .refl
  · rename_i due _
    simpa using accessFailed_moves (failLatch c (reach due u)) c

theorem execGrantTimerExpiry_moves {c : Column} (h : execGrantTimerExpiry c s = .next t) :
    TableMoves s.table t.table := by
  unfold execGrantTimerExpiry at h
  refine event_moves h fun u => ?_
  split
  · exact .refl
  · rename_i due _
    split
    · simpa using cutGrant_moves (reach due u) c .lapsed
    · exact .refl

theorem execOpenTimerExpiry_moves {c : Column} (h : execOpenTimerExpiry c s = .next t) :
    TableMoves s.table t.table := by
  unfold execOpenTimerExpiry at h
  refine event_moves h fun u => .of_eq ?_
  repeat' split
  all_goals simp

theorem execLatchRestExpiry_moves {c : Column} (h : execLatchRestExpiry c s = .next t) :
    TableMoves s.table t.table := by
  unfold execLatchRestExpiry at h
  refine event_moves h fun u => .of_eq ?_
  dsimp only
  repeat' split
  all_goals simp

theorem execPing_moves (h : execPing s = .next t) : TableMoves s.table t.table := by
  unfold execPing at h
  exact event_moves h fun u => .of_eq (firePing_table u)

theorem execEcho_moves {counter : Nat} (h : execEcho counter s = .next t) :
    TableMoves s.table t.table := by
  unfold execEcho at h
  refine event_moves h fun u => .of_eq ?_
  split
  · rfl
  · split
    · rfl
    · split
      · rfl
      · dsimp only
        split
        · rfl
        · exact closeWindow_table _ _ _

theorem execNoEcho_moves (h : execNoEcho s = .next t) : TableMoves s.table t.table := by
  unfold execNoEcho at h
  refine event_moves h fun u => .of_eq ?_
  split
  · rfl
  · split
    · rfl
    · exact closeWindow_table _ _ _

theorem execScanPauseExpiry_moves (h : execScanPauseExpiry s = .next t) :
    TableMoves s.table t.table := by
  unfold execScanPauseExpiry at h
  refine event_moves h fun u => .of_eq ?_
  split
  · rfl
  · exact chooseNext_table _

theorem execSupervisionTimerExpiry_moves (h : execSupervisionTimerExpiry s = .next t) :
    TableMoves s.table t.table := by
  unfold execSupervisionTimerExpiry at h
  refine event_moves h fun u => .of_eq ?_
  repeat' split
  all_goals simp [abortRound_table]

theorem execSettleTimerExpiry_moves (h : execSettleTimerExpiry s = .next t) :
    TableMoves s.table t.table := by
  unfold execSettleTimerExpiry at h
  refine event_moves h fun u => .of_eq ?_
  dsimp only
  repeat' split
  all_goals simp

theorem execStartMark_moves {line : Line} (h : execStartMark line s = .next t) :
    TableMoves s.table t.table := by
  unfold execStartMark at h
  refine event_moves h fun u => .of_eq ?_
  repeat' split
  all_goals rfl

end

/-! ### Every command -/

/-- Every command but TABLE RELEASE and a full reset makes moves on the card table. -/
theorem exec_moves (c : Instr) {s t : State} (h : exec c s = .next t) (hreset : c ≠ .fullReset)
    (hrelease : ∀ body, c ≠ .tableRelease body) : TableMoves s.table t.table := by
  cases c with
  | fullReset => exact absurd rfl hreset
  | tableRelease body => exact absurd rfl (hrelease body)
  | identify body => exact request_moves h fun _ => withNoBody_moves fun _ => .refl
  | status body => exact request_moves h fun _ => withNoBody_moves fun _ => .refl
  | restart body => exact request_moves h fun _ => withNoBody_moves fun _ => .refl
  | softRestart => exact event_moves h softRestart_moves
  | timeSet body => exact request_moves h fun u => .of_eq (timeSet_table u body)
  | periodSet body => exact request_moves h fun _ => withTwoBytes_moves fun _ _ _ => .refl
  | profileWrite body => exact request_moves h fun u => .of_eq (profileWrite_table u body)
  | profileRead body => exact request_moves h fun u => profileRead_moves u body
  | alertFetch body => exact request_moves h fun u => alertFetch_moves u body
  | alertFloor body => exact request_moves h fun u => alertFloor_moves u body
  | tableWrite body => exact request_moves h fun u => transferRequest_moves u body .write
  | tableData more body => exact request_moves h fun u => tableData_moves u body more
  | tableVerify body => exact request_moves h fun u => transferRequest_moves u body .verify
  | tableErase body => exact request_moves h fun u => tableErase_moves u body
  | tableSum body => exact request_moves h fun u => tableSum_moves u body
  | tablePin body => exact request_moves h fun u => tablePin_moves u body
  | cardQuery body => exact request_moves h fun u => .of_eq (cardQuery_table u body)
  | cardModify body => exact request_moves h fun u => cardModify_moves u body
  | columnRead body => exact request_moves h fun _ => withColumn_moves fun _ _ => .refl
  | columnService body => exact request_moves h fun u => columnService_moves u body
  | columnWithdraw body => exact request_moves h fun u => columnWithdraw_moves u body
  | columnMeasure body => exact request_moves h fun u => columnMeasure_moves u body
  | roundOpen body => exact request_moves h fun u => .of_eq (roundOpen_table u body)
  | roundClaim body => exact request_moves h fun u => roundClaim_moves u body
  | roundSkip body => exact request_moves h fun u => roundSkip_moves u body
  | roundKeep body => exact request_moves h fun u => roundKeep_moves u body
  | roundClose body => exact request_moves h fun u => roundClose_moves u body
  | roundRead body => exact request_moves h fun _ => withNoBody_moves fun _ => .refl
  | journalRead body => exact request_moves h fun u => journalRead_moves u body
  | journalRelease body => exact request_moves h fun u => journalRelease_moves u body
  | checkError => exact request_moves h fun _ => .refl
  | unknownKind kind => exact request_moves h fun _ => .refl
  | frameWhileRequestInHand => exact execFrameWhileRequestInHand_moves h
  | frameDiscard line cause => exact execFrameDiscard_moves (cause := cause) h
  | interbyteGap line => exact execInterbyteGap_moves h
  | replySent => exact execReplySent_moves h
  | transferWatchExpiry => exact execTransferWatchExpiry_moves h
  | present c card => exact execPresent_moves h
  | readerFrameRejected cause => exact execReaderFrameRejected_moves (cause := cause) h
  | verdictSent => exact execVerdictSent_moves h
  | clockAdvance => exact execClockAdvance_moves h
  | inputLevelChange c i closed => exact execInputLevelChange_moves h
  | hatchOpened c => exact execHatchOpened_moves h
  | hatchClosed c => exact execHatchClosed_moves h
  | liftOut c => exact execLiftOut_moves h
  | liftIn c => exact execLiftIn_moves h
  | latchContactChange c k made => exact execLatchContactChange_moves h
  | latchTravelTimeout c => exact execLatchTravelTimeout_moves h
  | grantTimerExpiry c => exact execGrantTimerExpiry_moves h
  | openTimerExpiry c => exact execOpenTimerExpiry_moves h
  | latchRestExpiry c => exact execLatchRestExpiry_moves h
  | ping => exact execPing_moves h
  | echo counter => exact execEcho_moves h
  | noEcho => exact execNoEcho_moves h
  | scanPauseExpiry => exact execScanPauseExpiry_moves h
  | supervisionTimerExpiry => exact execSupervisionTimerExpiry_moves h
  | settleTimerExpiry => exact execSettleTimerExpiry_moves h
  | startMark line => exact execStartMark_moves h

/-! ### TABLE RELEASE and the full reset (R38, R43) -/

/-- TABLE RELEASE leaves every entry where it is. -/
theorem tableRelease_keeps_tableOk (h : TableOk s.table) :
    TableOk (tableRelease body s).1.table := by
  unfold tableRelease withNoBody
  split
  · unfold unlessTransfer
    split
    · exact h
    · beta_reduce
      split
      · exact h
      · split
        · exact h
        · show TableOk (s.table.modBlocks (fun _ => true) fun b => { b with pinned := false })
          exact tableOk_modBlocks _ (fun _ => .inl rfl) h
  · exact h

theorem execTableRelease_keeps_tableOk {body : List Byte} {s t : State}
    (h : execTableRelease body s = .next t) (ht : TableOk s.table) : TableOk t.table := by
  cases h
  have hready : TableOk s.ready.table := by simpa using ht
  unfold serve
  split
  · exact hready
  · exact tableRelease_keeps_tableOk _ body hready

/-- The table after a full reset is empty (R43). -/
theorem tableOk_reset : TableOk CardTable.reset := by
  have hblock : ∀ b : Fin 64, CardTable.reset.blocks[b].entries = [] := fun b => by
    simp [CardTable.reset]
  have hcards : CardTable.reset.cards = [] :=
    List.flatMap_eq_nil_iff.mpr fun b _ => by rw [hblock]; rfl
  refine ⟨hcards ▸ List.nodup_nil, by simp [hcards], Nat.zero_le _, fun b => ?_, fun _ => hcards,
    fun b e he => ?_⟩
  · rw [hblock]; exact Nat.zero_le _
  · rw [hblock] at he; cases he

/-- Every command keeps the card table's law. -/
theorem exec_keeps_tableOk (c : Instr) {s t : State} (h : exec c s = .next t)
    (ht : TableOk s.table) : TableOk t.table := by
  by_cases hreset : c = .fullReset
  · subst hreset; cases h; exact tableOk_reset
  · by_cases hrelease : ∃ body, c = .tableRelease body
    · obtain ⟨body, rfl⟩ := hrelease
      exact execTableRelease_keeps_tableOk h ht
    · exact (exec_moves c h hreset (not_exists.mp hrelease)).tableOk ht

end Sys2Proof.Proofs.CardTables
end

section
/-! Proofs, TableSteps: what a step does to the card table, its law and its pinned blocks. -/

namespace Sys2Proof.Proofs.CardTables

open Sys2Proof Sys2Proof.Machine

/-! ### Commands that neither release the pins nor reset -/

/-- The command is neither a TABLE RELEASE nor a full reset. -/
def SparesPins (i : Instr) : Prop := i ≠ .fullReset ∧ ∀ body, i ≠ .tableRelease body

theorem whenDue_spares {now : Nat} {due : Option Nat} {i j : Instr}
    (h : j ∈ whenDue now due i) (hi : SparesPins i) : SparesPins j :=
  ((mem_whenDue now due i j).mp h).1 ▸ hi

theorem inputsDue_spare (s : State) (c : Column) : ∀ i ∈ inputsDue s c, SparesPins i := by
  intro i h
  simp only [inputsDue, List.mem_append] at h
  rcases h with ((h | h) | h) | h
  · exact whenDue_spares h (by split <;> exact ⟨nofun, nofun⟩)
  · exact whenDue_spares h (by split <;> exact ⟨nofun, nofun⟩)
  · exact whenDue_spares h ⟨nofun, nofun⟩
  · exact whenDue_spares h ⟨nofun, nofun⟩

theorem timersDue_spare (s : State) (c : Column) : ∀ i ∈ timersDue s c, SparesPins i := by
  intro i h
  simp only [timersDue, List.mem_append] at h
  rcases h with ((h | h) | h) | h <;> exact whenDue_spares h ⟨nofun, nofun⟩

theorem rangingDue_spare (s : State) : ∀ i ∈ rangingDue s, SparesPins i := by
  intro i h
  simp only [rangingDue, List.mem_append] at h
  rcases h with (h | h) | h <;> exact whenDue_spares h ⟨nofun, nofun⟩

theorem roundDue_spare (s : State) : ∀ i ∈ roundDue s, SparesPins i := by
  intro i h
  simp only [roundDue, List.mem_append] at h
  rcases h with (h | h) | h <;> exact whenDue_spares h ⟨nofun, nofun⟩

theorem gapsDue_spare (s : State) : ∀ i ∈ gapsDue s, SparesPins i := by
  intro i h
  simp only [gapsDue, gapDue, List.mem_append] at h
  rcases h with h | h <;> exact whenDue_spares h ⟨nofun, nofun⟩

theorem restartDue_spare (s : State) : ∀ i ∈ restartDue s, SparesPins i := by
  intro i h
  unfold restartDue at h
  split at h
  · rw [List.mem_singleton.mp h]; exact ⟨nofun, nofun⟩
  · cases h

/-- No event that falls due on the time base releases the pins or resets the part. -/
theorem dueEvents_spare (s : State) : ∀ i ∈ dueEvents s, SparesPins i := by
  intro i h
  simp only [dueEvents, List.mem_append, List.mem_flatMap] at h
  rcases h with (((((⟨c, -, h⟩ | ⟨c, -, h⟩) | h) | h) | h) | h) | h
  · exact inputsDue_spare s c i h
  · exact timersDue_spare s c i h
  · exact rangingDue_spare s i h
  · exact roundDue_spare s i h
  · exact whenDue_spares h ⟨nofun, nofun⟩
  · exact gapsDue_spare s i h
  · exact restartDue_spare s i h

/-- No frame is a full reset. -/
theorem completeFrame_ne_fullReset (line : Line) (kind mark : Byte) (taken : List Byte) :
    completeFrame line kind mark taken ≠ .fullReset := by
  cases line with
  | host =>
    simp only [completeFrame, hostFrame, requestOf]
    repeat' split
    all_goals nofun
  | reader =>
    simp only [completeFrame, readerFrame]
    repeat' split
    all_goals nofun

/-- No byte of a frame gives a full reset. -/
theorem takeByte_ne_fullReset (line : Line) (taken : List Byte) (b : Byte) :
    (takeByte line taken b).2 ≠ some .fullReset := by
  unfold takeByte
  split
  · split <;> nofun
  · nofun
  · split
    · nofun
    · split
      · exact fun h => completeFrame_ne_fullReset _ _ _ _ (Option.some.inj h)
      · nofun

/-- Nothing heard on a line is a full reset. -/
theorem hear_ne_fullReset (line : Line) (r : Receiver) (h : Heard) :
    (hear line r h).2 ≠ some .fullReset := by
  unfold hear
  split
  · split <;> nofun
  · nofun
  · exact takeByte_ne_fullReset _ _ _
  · nofun
  · nofun

/-! ### A step -/

/-- What a line brings leaves the card table, or it is a command. -/
theorem arrive_cases {line : Line} {h : Heard} {s t : State} (ha : arrive line h s = .next t) :
    t.table = s.table ∨ ∃ i, (hear line (s.receiver line) h).2 = some i ∧ exec i s = .next t := by
  unfold arrive at ha
  split at ha
  · cases ha; exact .inl rfl
  · split at ha
    · cases ha
      refine .inl ?_
      simp
    · rename_i i heq
      exact .inr ⟨i, by rw [heq], ha⟩

/-- An event due makes moves on the card table. -/
theorem takeDue_moves {i : Instr} {s t : State} (hi : SparesPins i) (h : takeDue i s = .next t) :
    TableMoves s.table t.table := by
  unfold takeDue at h
  split at h
  · cases h; exact restartNext_moves s
  · exact exec_moves i h hi.1 hi.2

/-- On an empty queue a step makes moves, or it takes the command that what a line brings gives. -/
theorem tick_moves_or_hears {s t : State} (h : tick s = .next t) :
    TableMoves s.table t.table ∨ ∃ line heard rest i, s.arriving = (line, heard) :: rest ∧
      (hear line (s.receiver line) heard).2 = some i ∧
      exec i { s with arriving := rest } = .next t := by
  rcases tick_cases s with ⟨-, ht⟩ | ⟨-, line, heard, rest, ha, harrive⟩ | ⟨-, -, -, ht⟩ |
    ⟨-, -, i, hi, ht⟩
  · rw [ht] at h; cases h
    exact .inl (.of_eq (chooseNext_table s))
  · rcases harrive with ⟨-, ht⟩ | ⟨r, -, -, ht⟩
    · rcases arrive_cases (ht ▸ h) with heq | ⟨i, hheard, hexec⟩
      · exact .inl (.of_eq heq)
      · exact .inr ⟨line, heard, rest, i, ha, hheard, hexec⟩
    · rw [ht] at h
      exact .inl (exec_moves _ h nofun nofun)
  · rw [ht] at h; cases h
    exact .inl .refl
  · exact .inl (takeDue_moves (s := { s with draws := s.draws + 1 }) (dueEvents_spare s i hi) (ht ▸ h))

/-- Every step keeps the card table's law. -/
theorem step_keeps_tableOk {s t : State} (h : step s = .next t) (ht : TableOk s.table) :
    TableOk t.table := by
  unfold step at h
  split at h
  · rcases tick_moves_or_hears h with hm | ⟨line, heard, rest, i, -, -, hexec⟩
    · exact hm.tableOk ht
    · exact exec_keeps_tableOk i hexec ht
  · rename_i c rest _
    exact exec_keeps_tableOk c h ht

/-- Settles O54: every change of the card table is made of moves that keep its law; TABLE RELEASE changes
pins alone, and a full reset leaves an empty table. -/
theorem stepKeepsTableLaw : Obligations.StepKeepsTableLaw := by
  intro s t h ht
  exact (tableLaw_iff t).mpr (step_keeps_tableOk h ((tableLaw_iff s).mp ht))

/-- A command that is neither of the two keeps the pinned blocks. -/
theorem exec_keeps_pins {c : Instr} {s t : State} (h : exec c s = .next t) (hc : SparesPins c) :
    PinsKept s.table t.table := (exec_moves c h hc.1 hc.2).pinsKept

/-- Settles O55: every move keeps the pinned blocks, and a step that takes neither a TABLE RELEASE nor a
full reset makes moves only. -/
theorem stepKeepsPinnedBlocks : Obligations.StepKeepsPinnedBlocks := by
  refine ⟨fun c s t h hreset hrelease => (pinnedKept_iff s t).mpr (exec_keeps_pins h ⟨hreset, hrelease⟩),
    fun s t h hfront hheard => (pinnedKept_iff s t).mpr ?_⟩
  unfold step at h
  split at h
  · rename_i hpending
    rcases tick_moves_or_hears h with hm | ⟨line, heard, rest, i, ha, hi, hexec⟩
    · exact hm.pinsKept
    · refine exec_keeps_pins (s := { s with arriving := rest }) hexec ⟨?_, fun body => ?_⟩
      · rintro rfl
        exact hear_ne_fullReset _ _ _ hi
      · rintro rfl
        exact hheard hpending line heard rest ha body hi
  · rename_i c rest hpending
    exact exec_keeps_pins (s := { s with pending := rest }) h (hfront c rest hpending)

end Sys2Proof.Proofs.CardTables
end

section
/-! Proofs, CardEntries: what a refund, a use count and a carry-over make of an entry, and the canonical form of an entry delivered. -/

namespace Sys2Proof.Proofs.CardTables

open Sys2Proof Sys2Proof.Machine

/-! ### Refund and use count (R21, R23, R53) -/

theorem refund_absent {t : CardTable} {card : CardNumber} (granted current : BitVec 16)
    (h : t.lookup card = none) : t.refund card granted current = t := by
  simp only [CardTable.refund, h]

theorem refund_found {t : CardTable} {card : CardNumber} {b : Fin 64} {i : Nat} {e : Entry}
    (granted current : BitVec 16) (h : t.lookup card = some (b, i, e)) :
    t.refund card granted current =
      if e.stamp = some granted ∧ granted = current then t.setEntry b i e.refund else t := by
  simp only [CardTable.refund, h]

theorem useCount_absent {t : CardTable} {card : CardNumber} (h : t.lookup card = none) :
    t.useCount card = t := by
  simp only [CardTable.useCount, h]

theorem useCount_found {t : CardTable} {card : CardNumber} {b : Fin 64} {i : Nat} {e : Entry}
    (h : t.lookup card = some (b, i, e)) :
    t.useCount card = t.setEntry b i { e with uses := e.uses + 1 } := by
  simp only [CardTable.useCount, h]

/-- A count of uses wraps after 65,535. -/
theorem uses_wrap (n : BitVec 16) : n + 1 = BitVec.ofNat 16 ((n.toNat + 1) % 65536) :=
  BitVec.eq_of_toNat_eq (by simp)

/-- Settles O27: both operations are one lookup and one rewritten slot. -/
theorem refundReturnsOneUse : Obligations.RefundReturnsOneUse := by
  intro t card granted current
  refine ⟨fun h => refund_absent granted current (lookup_absent h), ?_, ?_, ?_⟩
  · intro h0 hp hn b i e held hc
    have found := refund_found granted current (lookup_held h0 hp hn held hc)
    refine ⟨fun hnot => ?_, fun hstamp hperiod => ?_⟩
    · rw [found, if_neg fun h => hnot.elim (· h.1) (· h.2)]
    · rw [found, if_pos ⟨hstamp, hperiod⟩]
      rfl
  · rintro (rfl | h)
    · refine useCount_absent ?_
      unfold CardTable.lookup
      split
      · rfl
      · exact find_zero t
    · exact useCount_absent (lookup_absent h)
  · intro h0 hp hn b i e held hc
    rw [useCount_found (lookup_held h0 hp hn held hc), uses_wrap]
    rfl

/-! ### Carry-over (R29) -/

/-- A card that stood in the block keeps its state of use. -/
theorem carryOver_kept {old : List Entry} {r : RawEntry} {e : Entry} (he : e ∈ old)
    (hc : e.host.card = r.card) (honly : ∀ k ∈ old, k.host.card = r.card → k = e) :
    carryOver old r =
      { host := r.fields, remaining := min e.remaining r.allowance.toNat, stamp := e.stamp,
        uses := e.uses } := by
  match hf : old.find? (fun e => decide (e.host.card = r.card)) with
  | none => exact absurd (List.find?_eq_none.mp hf e he) (by simp [hc])
  | some k =>
    have hk : k = e := honly k (List.mem_of_find?_eq_some hf) (by simpa using List.find?_some hf)
    simp only [carryOver, hf, hk, RawEntry.fields]

/-- Any other card is new. -/
theorem carryOver_new {old : List Entry} {r : RawEntry} (h : ∀ e ∈ old, e.host.card ≠ r.card) :
    carryOver old r =
      { host := r.fields, remaining := r.allowance.toNat, stamp := none, uses := 0 } := by
  have hf : old.find? (fun e => decide (e.host.card = r.card)) = none :=
    List.find?_eq_none.mpr fun e he => by simp [h e he]
  simp only [carryOver, hf, RawEntry.fields]

/-- The conditions of R27 on an entry, one by one. -/
theorem valid_iff (r : RawEntry) : r.valid = true ↔
    r.card ≠ 0 ∧ r.cls.toNat ≤ 2 ∧ r.fractions.toNat < 64 ∧ r.tariff.toNat ≤ 15 ∧
      r.flags.toNat < 4 ∧ r.restriction.toNat < 4096 ∧
      (r.flags.getLsbD 1 = true ∨ r.restriction = 0) ∧ r.spare = 0 := by
  simp only [RawEntry.valid, Bool.and_eq_true, Bool.or_eq_true, decide_eq_true_eq, and_assoc]

/-- A byte sent is the byte received. -/
theorem byte_toNat (b : Byte) : byte b.toNat = b := by simp [byte]

/-- A tariff byte that fits comes back as it was. -/
theorem tariff_fits {b : Byte} (h : b.toNat ≤ 15) : byte (Fin.ofNat 16 b.toNat).val = b := by
  rw [Fin.val_ofNat, Nat.mod_eq_of_lt (by omega), byte_toNat]

/-- A class byte that is a class comes back as it was. -/
theorem classOf_code {b : Byte} (h : b.toNat ≤ 2) :
    byte ((classOf b).getD .resident).code = b := by
  rw [← byte_toNat b]
  generalize b.toNat = n at h ⊢
  have : n = 0 ∨ n = 1 ∨ n = 2 := by omega
  rcases this with rfl | rfl | rfl <;> rfl

/-- Bits narrowed and widened again come back as they were where they fit. -/
theorem setWidth_setWidth_fits {v w : Nat} {x : BitVec w} (h : x.toNat < 2 ^ v) :
    (x.setWidth v).setWidth w = x :=
  BitVec.eq_of_toNat_eq (by simp [Nat.mod_eq_of_lt h, Nat.mod_eq_of_lt x.isLt])

/-- A flags byte below 4 is its two flags. -/
theorem flags_bits {f : Byte} (h : f.toNat < 4) :
    byte (bit 0 (f.getLsbD 0) + bit 1 (f.getLsbD 1)) = f := by
  rw [← byte_toNat f]
  generalize f.toNat = n at h ⊢
  have : n = 0 ∨ n = 1 ∨ n = 2 ∨ n = 3 := by omega
  rcases this with rfl | rfl | rfl | rfl <;> rfl

/-- The canonical form of a valid entry is the entry delivered (R32). -/
theorem canonical_fields {r : RawEntry} (h : r.valid = true) : r.fields.canonical = r := by
  obtain ⟨-, hcls, hfractions, htariff, hflags, hrestriction, habsent, hspare⟩ := (valid_iff r).mp h
  obtain ⟨card, cls, fractions, tariff, allowance, flags, restriction, spare⟩ := r
  dsimp only at hcls hfractions htariff hflags hrestriction habsent hspare
  have hbits : (if flags.getLsbD 1 = true then some (restriction.setWidth 12) else none).isSome =
      flags.getLsbD 1 := by cases flags.getLsbD 1 <;> rfl
  have hset : ((if flags.getLsbD 1 = true then some (restriction.setWidth 12) else none).getD
      0).setWidth 16 = restriction := by
    cases hbit : flags.getLsbD 1 with
    | true => exact setWidth_setWidth_fits hrestriction
    | false =>
      rw [habsent.resolve_left fun h => Bool.false_ne_true (hbit.symm.trans h)]
      rfl
  simp only [RawEntry.fields, HostFields.canonical, HostFields.flagsByte, hbits, hset, hspare,
    classOf_code hcls, flags_bits hflags, setWidth_setWidth_fits (v := 6) hfractions,
    tariff_fits htariff, byte_toNat]

/-- Settles O20, by the old entry found. -/
theorem commitCarriesOver : Obligations.CommitCarriesOver := fun _ _ =>
  ⟨fun _ he hc honly => carryOver_kept he hc honly, carryOver_new, canonical_fields⟩

end Sys2Proof.Proofs.CardTables
end

section
/-! Proofs, CardRequests: what the card table's requests answer and change: query, modification, sum, erasing, pinning and releasing. -/

namespace Sys2Proof.Proofs.CardTables

open Sys2Proof Sys2Proof.Machine

/-! ### A request served in a state with no choice due and no request in hand (R162) -/

section
variable {s : State} {kind : Byte} {act : State → State × List Byte} {reply : List Byte}

theorem served (hs : s.chosen) (hi : s.host.inHand = none) :
    event (serve kind act) s =
      .next (putInHand kind (act (hostFrameEnds s)).2 (act (hostFrameEnds s)).1) := by
  rw [event_chosen _ s hs, serve_idle _ _ s hi]

/-- A request whose action changes nothing leaves the state answered. -/
theorem served_unchanged (hs : s.chosen) (hi : s.host.inHand = none) (hk : kind ≠ 0x83)
    (h : act (hostFrameEnds s) = (hostFrameEnds s, reply)) :
    event (serve kind act) s = .next (s.answered kind reply) := by
  rw [served hs hi, h, putInHand_hostFrameEnds kind reply s hk]

/-- A request whose action changes the card table alone. -/
theorem served_table {t : CardTable} (hs : s.chosen) (hi : s.host.inHand = none)
    (hk : kind ≠ 0x83) (h : act (hostFrameEnds s) = ({ hostFrameEnds s with table := t }, reply)) :
    event (serve kind act) s = .next { s.answered kind reply with table := t } := by
  rw [served hs hi, h, putInHand_plain kind reply _ hk]
  rfl

/-- A request whose action changes the card table and the transfer context. -/
theorem served_transfer {t : CardTable} {x : Option Transfer} (hs : s.chosen)
    (hi : s.host.inHand = none) (hk : kind ≠ 0x83)
    (h : act (hostFrameEnds s) =
      ({ hostFrameEnds s with
          host := { (hostFrameEnds s).host with transfer := x }, table := t }, reply)) :
    event (serve kind act) s = .next
      { s.answered kind reply with
        host := { (s.answered kind reply).host with transfer := x }, table := t } := by
  rw [served hs hi, h, putInHand_plain kind reply _ hk]
  rfl

end

/-! ### CARD QUERY (R39) -/

section
variable {s : State} {c3 c2 c1 c0 : Byte}

theorem cardQuery_zero (h : (c3 ++ c2 ++ c1 ++ c0 : CardNumber) = 0) :
    cardQuery [c3, c2, c1, c0] s = (s, [0x04]) := if_pos h

theorem cardQuery_absent (h0 : (c3 ++ c2 ++ c1 ++ c0 : CardNumber) ≠ 0)
    (h : s.table.lookup (c3 ++ c2 ++ c1 ++ c0) = none) :
    cardQuery [c3, c2, c1, c0] s = (s, [0x0A]) := by
  simp only [cardQuery, if_neg h0, h]
  rfl

theorem cardQuery_found {b : Fin 64} {i : Nat} {e : Entry}
    (h0 : (c3 ++ c2 ++ c1 ++ c0 : CardNumber) ≠ 0)
    (h : s.table.lookup (c3 ++ c2 ++ c1 ++ c0) = some (b, i, e)) :
    cardQuery [c3, c2, c1, c0] s = (s, answer .ok (queryFields s.period b i e)) := by
  simp only [cardQuery, if_neg h0, h]

end

/-- Settles O24, by what the lookup finds. -/
theorem cardQueried : Obligations.CardQueried := by
  intro s c3 c2 c1 c0 hs hi
  refine ⟨fun h0 => ?_, fun h0 habsent => ?_, fun h0 hp hn b i e held hc => ?_⟩
  · exact served_unchanged hs hi (by decide) (cardQuery_zero h0)
  · exact served_unchanged hs hi (by decide) (cardQuery_absent h0 (lookup_absent habsent))
  · exact served_unchanged hs hi (by decide) (cardQuery_found h0 (lookup_held h0 hp hn held hc))

/-! ### CARD MODIFY (R40) -/

section
variable {s : State} {c3 c2 c1 c0 keep add : Byte}

theorem cardModify_badValue
    (h : (c3 ++ c2 ++ c1 ++ c0 : CardNumber) = 0 ∨ keep.getLsbD 7 = true ∨ add.getLsbD 7 = true) :
    cardModify [c3, c2, c1, c0, keep, add] s = (s, [0x04]) := if_pos h

theorem cardModify_absent
    (h0 : (c3 ++ c2 ++ c1 ++ c0 : CardNumber) ≠ 0) (hkeep : keep.getLsbD 7 = false)
    (hadd : add.getLsbD 7 = false)
    (hl : s.table.lookup (c3 ++ c2 ++ c1 ++ c0) = none) :
    cardModify [c3, c2, c1, c0, keep, add] s = (s, [0x0A]) := by
  simp only [cardModify, hkeep, hadd, hl, or_self, or_false, Bool.false_eq_true, if_neg h0]
  rfl

/-- The permission set a CARD MODIFY makes of an entry's. -/
def modified (keep add : Byte) (e : Entry) : BitVec 7 :=
  newPermissions e.host.permissions (keep.setWidth 7) (add.setWidth 7)

/-- A found entry gets the new permission set, unless its block is pinned and the set neither stands nor
adds blocked alone. -/
theorem cardModify_found {b : Fin 64} {i : Nat} {e : Entry}
    (h0 : (c3 ++ c2 ++ c1 ++ c0 : CardNumber) ≠ 0) (hkeep : keep.getLsbD 7 = false)
    (hadd : add.getLsbD 7 = false)
    (hl : s.table.lookup (c3 ++ c2 ++ c1 ++ c0) = some (b, i, e)) :
    cardModify [c3, c2, c1, c0, keep, add] s =
      if s.table.blocks[b].pinned = true ∧ modified keep add e ≠ e.host.permissions ∧
          modified keep add e ≠ withBlocked e.host.permissions then (s, [0x08])
      else
        ({ s with table := s.table.setEntry b i (e.setPermissions (modified keep add e)) },
          [0x00, (modified keep add e).setWidth 8]) := by
  simp only [cardModify, hkeep, hadd, hl, or_self, or_false, Bool.false_eq_true, if_neg h0]
  rfl

end

/-- Settles O25, by what the lookup finds and by the pin. -/
theorem cardModified : Obligations.CardModified := by
  intro s c3 c2 c1 c0 keep add hs hi
  refine ⟨fun hbad => ?_, fun h0 hkeep hadd habsent => ?_, fun h0 hkeep hadd hp hn b i e held hc => ?_⟩
  · exact served_unchanged hs hi (by decide) (cardModify_badValue hbad)
  · exact served_unchanged hs hi (by decide)
      (cardModify_absent h0 hkeep hadd (lookup_absent habsent))
  · have found := cardModify_found (s := hostFrameEnds s) h0 hkeep hadd
      (lookup_held h0 hp hn held hc)
    refine ⟨fun hheld => ?_, fun hfree => ?_⟩
    · exact served_unchanged hs hi (by decide) (found.trans (if_pos hheld))
    · exact served_table hs hi (by decide) (found.trans (if_neg hfree))

/-! ### TABLE SUM (R33) -/

/-- Bytes subtracted in turn are subtracted as their sum. -/
theorem subtractBytes_sum (n : BitVec 16) (l : List Byte) :
    subtractBytes n l = n - BitVec.ofNat 16 (l.map BitVec.toNat).sum := by
  induction l generalizing n with
  | nil => simp [subtractBytes]
  | cons b l ih =>
    have hb : b.setWidth 16 = BitVec.ofNat 16 b.toNat := (BitVec.ofNat_toNat 16 b).symm
    have step : subtractBytes n (b :: l) = subtractBytes (n - b.setWidth 16) l := rfl
    rw [step, ih, List.map_cons, List.sum_cons, BitVec.ofNat_add, hb, BitVec.sub_sub]

/-- A fold that subtracts something of each item subtracts the sum. -/
theorem foldl_subtract {α : Type} (f : BitVec 16 → α → BitVec 16) (g : α → Nat)
    (h : ∀ n a, f n a = n - BitVec.ofNat 16 (g a)) (n : BitVec 16) (l : List α) :
    l.foldl f n = n - BitVec.ofNat 16 (l.map g).sum := by
  induction l generalizing n with
  | nil => simp
  | cons a l ih => rw [List.foldl_cons, ih, h, List.map_cons, List.sum_cons, BitVec.ofNat_add,
      BitVec.sub_sub]

/-- The sum of the bytes of a block's canonical forms. -/
def blockTotal (b : Block) : Nat :=
  (b.entries.map fun e => (e.host.canonical.bytes.map BitVec.toNat).sum).sum

theorem subtractBlock_total (n : BitVec 16) (b : Block) :
    subtractBlock n b = n - BitVec.ofNat 16 (blockTotal b) :=
  foldl_subtract _ _ (fun n e => subtractBytes_sum n e.host.canonical.bytes) n b.entries

/-- The subtractive sum over a range is 0 minus all the bytes (R33). -/
theorem sum_toNat (t : CardTable) (first last : Byte) :
    (t.sum first last).toNat =
      (65536 - ((t.range first last).map blockTotal).sum % 65536) % 65536 := by
  rw [CardTable.sum, foldl_subtract _ _ subtractBlock_total, BitVec.toNat_sub, BitVec.toNat_ofNat]
  simp

/-- The used slots over a range. -/
theorem used_sum (t : CardTable) (first last : Byte) :
    t.used first last = ((t.range first last).map fun b => b.entries.length).sum := by
  rw [CardTable.used, List.sum_eq_foldl, List.foldl_map]

/-- A range that is bad as the rule has it is refused (R31, R33, R36). -/
theorem range_bad {first last : Byte} (h : 63 < last.toNat ∨ last.toNat < first.toNat) :
    (!goodRange first last) = true := by
  simp only [goodRange, Bool.not_and, Bool.or_eq_true, Bool.not_eq_true', decide_eq_false_iff_not]
  omega

/-- Any other range is taken. -/
theorem range_good {first last : Byte} (h : ¬(63 < last.toNat ∨ last.toNat < first.toNat)) :
    ¬(!goodRange first last) = true := by
  simp only [goodRange, Bool.not_and, Bool.or_eq_true, Bool.not_eq_true', decide_eq_false_iff_not]
  omega

theorem inRange_iff (first last : Byte) (b : Fin 64) :
    inRange first last b = true ↔ first.toNat ≤ b.val ∧ b.val ≤ last.toNat := by
  simp [inRange]

theorem tableSum_two (s : State) (first last : Byte) : tableSum [first, last] s =
    (s, if 63 < last.toNat ∨ last.toNat < first.toNat then [0x04]
      else answer .ok (bytes 2 (s.table.sum first last).toNat ++
        bytes 2 (s.table.used first last))) := by
  show (if !goodRange first last then refuse .badValue s else _) = _
  by_cases h : 63 < last.toNat ∨ last.toNat < first.toNat
  · rw [if_pos h, if_pos (range_bad h)]
    rfl
  · rw [if_neg h, if_neg (range_good h)]

/-- Settles O23, by the sum of the bytes subtracted. -/
theorem tableSumSubtracts : Obligations.TableSumSubtracts := by
  intro s first last hs hi
  refine served_unchanged hs hi (by decide) ((tableSum_two (hostFrameEnds s) first last).trans ?_)
  rw [sum_toNat, used_sum]
  rfl

/-! ### TABLE ERASE, TABLE PIN and TABLE RELEASE (R31, R36, R38) -/

section
variable {s : State}

theorem unlessTransfer_open {act : State → State × List Byte} (h : s.host.transfer.isSome = true) :
    unlessTransfer act s = (s, [0x05]) := if_pos h

theorem unlessTransfer_none {act : State → State × List Byte} (h : s.host.transfer = none) :
    unlessTransfer act s = act s := by
  rw [unlessTransfer, h]
  rfl

variable {first last : Byte}

/-- TABLE ERASE with no transfer open, its checks in order. -/
theorem tableErase_two (ht : s.host.transfer = none) : tableErase [first, last] s =
    if !goodRange first last then refuse .badValue s
    else if (s.table.range first last).any (·.pinned) then refuse .pinned s
    else
      ({ s with table := s.table.modBlocks (inRange first last) fun b => { b with entries := [] } },
        answer .ok []) := by
  simp only [tableErase, withTwoBytes, unlessTransfer_none ht]

/-- TABLE PIN with no transfer open. -/
theorem tablePin_two (ht : s.host.transfer = none) : tablePin [first, last] s =
    if !goodRange first last then refuse .badValue s
    else
      ({ s with table := s.table.modBlocks (inRange first last) fun b => { b with pinned := true } },
        answer .ok []) := by
  simp only [tablePin, withTwoBytes, unlessTransfer_none ht]

theorem held_zero (h : s.journal.records = []) : ¬0 < s.journal.held := by
  simp [Journal.held, h]

/-- TABLE RELEASE with no transfer open, its checks in order. -/
theorem tableRelease_empty (ht : s.host.transfer = none) : tableRelease [] s =
    if 0 < s.journal.held then refuse .notEmpty s
    else if s.round.state = .open then refuse .roundActive s
    else
      ({ s with table := s.table.modBlocks (fun _ => true) fun b => { b with pinned := false } },
        answer .ok []) := by
  simp only [tableRelease, withNoBody, unlessTransfer_none ht]

end

/-- Settles O22: each of the three requests changes the blocks of a range and no other. -/
theorem blocksErasedPinnedReleased : Obligations.BlocksErasedPinnedReleased := by
  refine ⟨fun s first last hs hi ht => ⟨fun hbad => ⟨?_, ?_⟩, fun hgood hpinned => ?_,
    fun hgood hfree => ⟨s.table.modBlocks (inRange first last) fun b => { b with entries := [] },
      ?_, modBlocks_provisional _ _ _, modBlocks_staged _ _ _,
      fun b hb => ?_, fun b hb => ?_⟩,
    fun hgood => ⟨s.table.modBlocks (inRange first last) fun b => { b with pinned := true },
      ?_, modBlocks_provisional _ _ _, modBlocks_staged _ _ _,
      fun b hb => ?_, fun b hb => ?_⟩⟩,
    fun s hs hi => ⟨fun ht hj => ?_, fun ht hj hr => ?_,
      fun ht hj hr => ⟨s.table.modBlocks (fun _ => true) fun b => { b with pinned := false },
        ?_, modBlocks_provisional _ _ _, modBlocks_staged _ _ _, fun b => ?_⟩⟩⟩
  · exact served_unchanged hs hi (by decide)
      ((tableErase_two (s := hostFrameEnds s) ht).trans (if_pos (range_bad hbad)))
  · exact served_unchanged hs hi (by decide)
      ((tablePin_two (s := hostFrameEnds s) ht).trans (if_pos (range_bad hbad)))
  · obtain ⟨b, hb, hp⟩ := hpinned
    have hany := (any_pinned_range s.table first last).mpr ⟨b, (inRange_iff _ _ _).mpr hb, hp⟩
    exact served_unchanged hs hi (by decide)
      ((tableErase_two (s := hostFrameEnds s) ht).trans ((if_neg (range_good hgood)).trans (if_pos hany)))
  · have hany : ¬(s.table.range first last).any (·.pinned) = true := fun h => by
      obtain ⟨b, hb, hp⟩ := (any_pinned_range _ _ _).mp h
      exact Bool.false_ne_true ((hfree b ((inRange_iff _ _ _).mp hb)).symm.trans hp)
    exact served_table hs hi (by decide)
      ((tableErase_two (s := hostFrameEnds s) ht).trans ((if_neg (range_good hgood)).trans (if_neg hany)))
  · rw [modBlocks_block, if_pos ((inRange_iff _ _ _).mpr hb)]
    exact congrArg (Block.mk []) (hfree b hb)
  · rw [modBlocks_block, if_neg fun h => hb ((inRange_iff _ _ _).mp h)]
  · exact served_table hs hi (by decide)
      ((tablePin_two (s := hostFrameEnds s) ht).trans (if_neg (range_good hgood)))
  · rw [modBlocks_block, if_pos ((inRange_iff _ _ _).mpr hb)]
  · rw [modBlocks_block, if_neg fun h => hb ((inRange_iff _ _ _).mp h)]
  · exact served_unchanged hs hi (by decide)
      ((tableRelease_empty (s := hostFrameEnds s) ht).trans (if_pos (List.length_pos_of_ne_nil hj)))
  · exact served_unchanged hs hi (by decide)
      ((tableRelease_empty (s := hostFrameEnds s) ht).trans ((if_neg (held_zero hj)).trans (if_pos hr)))
  · exact served_table hs hi (by decide)
      ((tableRelease_empty (s := hostFrameEnds s) ht).trans ((if_neg (held_zero hj)).trans (if_neg hr)))
  · rw [modBlocks_block]
    rfl

end Sys2Proof.Proofs.CardTables
end

section
/-! Proofs, Transfers: a transfer opened, filled, ended by its final frame and abandoned (R25 to R28, R34, R35, R164, R165). -/

namespace Sys2Proof.Proofs.CardTables

open Sys2Proof Sys2Proof.Machine

/-! ### A transfer opened and abandoned (R25, R34, R164, R165) -/

theorem blockOf_good {b : Byte} (h : ¬63 < b.toNat) : blockOf b = some (Fin.ofNat 64 b.toNat) := by
  have hb : b.toNat < 64 := by omega
  rw [blockOf, dif_pos hb]
  exact congrArg some (Fin.ext (Nat.mod_eq_of_lt hb).symm)

theorem blockOf_bad {b : Byte} (h : 63 < b.toNat) : blockOf b = none := dif_neg (by omega)

section
variable {s : State} (kind : TransferKind) {b n : Byte}

theorem transferRequest_open (h : s.host.transfer.isSome = true) :
    transferRequest kind [b, n] s = (s, [0x05]) := by
  simp only [transferRequest, withTwoBytes, unlessTransfer_open h]

theorem transferRequest_badValue (ht : s.host.transfer = none)
    (h : 63 < b.toNat ∨ 64 < n.toNat) : transferRequest kind [b, n] s = (s, [0x04]) := by
  simp only [transferRequest, withTwoBytes, unlessTransfer_none ht]
  by_cases hb : 63 < b.toNat
  · rw [blockOf_bad hb]; rfl
  · rw [blockOf_good hb]
    exact if_pos (h.resolve_left hb)

theorem transferRequest_opens (ht : s.host.transfer = none)
    (h : ¬(63 < b.toNat ∨ 64 < n.toNat)) :
    transferRequest kind [b, n] s = (openTransfer kind (Fin.ofNat 64 b.toNat) n.toNat s, [0x00]) := by
  simp only [transferRequest, withTwoBytes, unlessTransfer_none ht]
  rw [blockOf_good fun hb => h (.inl hb)]
  exact if_neg fun hn => h (.inr hn)

/-- TABLE WRITE and TABLE VERIFY alike, under their own reply kinds. -/
theorem transferRequest_served {reply : Byte} (hs : s.chosen) (hi : s.host.inHand = none)
    (hk : reply ≠ 0x83) :
    event (serve reply (transferRequest kind [b, n])) s = .next
      (if s.host.transfer.isSome then s.answered reply [0x05]
       else if 63 < b.toNat ∨ 64 < n.toNat then s.answered reply [0x04]
       else
        { s.answered reply [0x00] with
          host := { (s.answered reply [0x00]).host with
            transfer := some
              { kind := kind, block := Fin.ofNat 64 b.toNat, declared := n.toNat, delivered := 0,
                watch := s.now + 2000 } },
          table := { s.table with staged := [] } }) := by
  cases ht : s.host.transfer with
  | some x =>
    have hopen : s.host.transfer.isSome = true := by rw [ht]; rfl
    exact served_unchanged hs hi hk (transferRequest_open (s := hostFrameEnds s) kind hopen)
  | none =>
    by_cases h : 63 < b.toNat ∨ 64 < n.toNat
    · simp only [h, if_true]
      exact served_unchanged hs hi hk (transferRequest_badValue (s := hostFrameEnds s) kind ht h)
    · simp only [h, if_false]
      exact served_transfer hs hi hk (transferRequest_opens (s := hostFrameEnds s) kind ht h)

end

/-- The watch's expiry closes the transfer and raises its alert at the watch's moment (R165). -/
theorem transferWatch_expires {s : State} {x : Transfer} (hs : s.chosen)
    (hx : s.host.transfer = some x) :
    exec .transferWatchExpiry s = .next
      { s with
        now := max s.now x.watch,
        host := { s.host with transfer := none },
        table := { s.table with staged := [] },
        alerts := s.alerts.raise .transferAbandoned none s.clock.reading } := by
  simp only [exec, execTransferWatchExpiry]
  rw [event_chosen _ s hs]
  simp only [hx]
  rfl

/-! ### TABLE DATA (R26, R163, R164) -/

section
variable {s : State} {body : List Byte} {x : Transfer}

theorem dataLength_good {more : Bool} (h12 : body.length % 12 = 0) (h96 : body.length ≤ 96)
    (hmore : more = true → body ≠ []) : dataLengthGood more body.length = true := by
  simp only [dataLengthGood, h12, h96, decide_true, Bool.true_and, Bool.not_eq_true',
    Bool.and_eq_false_iff, decide_eq_false_iff_not, List.length_eq_zero_iff]
  cases more with
  | true => exact .inr (hmore rfl)
  | false => exact .inl rfl

theorem tableData_none {more : Bool} (hgood : dataLengthGood more body.length = true)
    (ht : s.host.transfer = none) : tableData more body s = (s, [0x06]) := by
  simp only [tableData, hgood, ht, Bool.not_true, Bool.false_eq_true, if_false]
  rfl

/-- The card table with the entries of a frame staged. -/
def filled (t : CardTable) (body : List Byte) : CardTable :=
  { t with staged := (t.staged ++ parseEntries body).take 64 }

/-- The transfer with the entries of a frame counted. -/
def counted (x : Transfer) (body : List Byte) : Transfer :=
  { x with delivered := min 255 (x.delivered + (parseEntries body).length) }

theorem stage_eq : stage x (parseEntries body) s =
    ({ s with table := filled s.table body }, counted x body) := rfl

theorem tableData_continues (hgood : dataLengthGood true body.length = true)
    (ht : s.host.transfer = some x) :
    tableData true body s =
      continueTransfer (counted x body) { s with table := filled s.table body } := by
  simp only [tableData, hgood, ht, Bool.not_true, Bool.false_eq_true, if_false, if_true, stage_eq]

theorem tableData_finalWrite (hgood : dataLengthGood false body.length = true)
    (ht : s.host.transfer = some x) (hk : x.kind = .write) :
    tableData false body s =
      (closeTransfer (finalWrite (counted x body) { s with table := filled s.table body }).1,
        (finalWrite (counted x body) { s with table := filled s.table body }).2) := by
  simp only [tableData, hgood, ht, hk, Bool.not_true, Bool.false_eq_true, if_false, stage_eq]

theorem tableData_finalVerify (hgood : dataLengthGood false body.length = true)
    (ht : s.host.transfer = some x) (hk : x.kind = .verify) :
    tableData false body s =
      (closeTransfer (finalVerify (counted x body) { s with table := filled s.table body }).1,
        (finalVerify (counted x body) { s with table := filled s.table body }).2) := by
  simp only [tableData, hgood, ht, hk, Bool.not_true, Bool.false_eq_true, if_false, stage_eq]

end

/-- Settles O18: each request by its checks in order. -/
theorem transferOpenedFilledAbandoned : Obligations.TransferOpenedFilledAbandoned := by
  refine ⟨fun s hs => ⟨fun b n verify hi => ?_, fun a b hi ht => ⟨?_, ?_, ?_⟩,
      fun x hx => transferWatch_expires hs hx⟩,
    fun s body hs hi h12 h96 => ⟨fun x hx hne => ?_, fun ht more hmore => ?_⟩⟩
  · cases verify with
    | true => exact transferRequest_served .verify hs hi (by decide)
    | false => exact transferRequest_served .write hs hi (by decide)
  · refine served_unchanged hs hi (by decide) ?_
    simp only [tableErase, withTwoBytes, unlessTransfer_open (s := hostFrameEnds s) ht]
  · refine served_unchanged hs hi (by decide) ?_
    simp only [tablePin, withTwoBytes, unlessTransfer_open (s := hostFrameEnds s) ht]
  · refine served_unchanged hs hi (by decide) ?_
    simp only [tableRelease, withNoBody, unlessTransfer_open (s := hostFrameEnds s) ht]
  · exact served_transfer hs hi (by decide)
      (tableData_continues (s := hostFrameEnds s) (dataLength_good h12 h96 fun _ => hne) hx)
  · exact served_unchanged hs hi (by decide)
      (tableData_none (s := hostFrameEnds s) (dataLength_good h12 h96 hmore) ht)

/-! ### The final frame (R27, R28, R35) -/

section
variable {s : State} {body : List Byte} {x : Transfer} {reply : List Byte}

theorem finalWrite_refused (h : commitRefusal s.table x = some reply) :
    finalWrite x s = (s, reply) := by
  simp only [finalWrite, h]

theorem finalWrite_commits (h : commitRefusal s.table x = none) :
    finalWrite x s = ({ s with table := s.table.commit x.block }, [0x00]) := by
  simp only [finalWrite, h]
  rfl

/-- A verify transfer answers its mismatches where the count is good. -/
theorem finalVerify_eq : finalVerify x s =
    (s, if x.delivered = x.declared then
        [0x00, byte (mismatches s.table.staged s.table.blocks[x.block].entries)]
      else [0x07, byte x.delivered]) := by
  unfold finalVerify
  by_cases h : x.delivered = x.declared
  · rw [if_pos h, if_neg (not_not_intro h)]
    rfl
  · rw [if_neg h, if_pos h]
    rfl

/-- A final frame closes the context and empties the staging block, whatever its answer. -/
theorem final_closes {t : CardTable} (hs : s.chosen) (hi : s.host.inHand = none)
    (h : tableData false body (hostFrameEnds s) =
      (closeTransfer { hostFrameEnds s with table := t }, reply)) :
    exec (.tableData false body) s = .next
      { s.answered 0x91 reply with
        host := { (s.answered 0x91 reply).host with transfer := none },
        table := { t with staged := [] } } :=
  served_transfer hs hi (by decide) h

/-- A final frame that a check refuses changes no block. -/
theorem final_refused (hs : s.chosen) (hi : s.host.inHand = none)
    (hgood : dataLengthGood false body.length = true) (hx : s.host.transfer = some x)
    (hk : x.kind = .write) (h : commitRefusal (filled s.table body) (counted x body) = some reply) :
    exec (.tableData false body) s = .next
      { s.answered 0x91 reply with
        host := { (s.answered 0x91 reply).host with transfer := none },
        table := { s.table with staged := [] } } := by
  refine final_closes (t := filled s.table body) hs hi ?_
  rw [tableData_finalWrite (s := hostFrameEnds s) hgood hx hk, finalWrite_refused h]
  rfl

/-- A final frame that no check refuses commits. -/
theorem final_commits (hs : s.chosen) (hi : s.host.inHand = none)
    (hgood : dataLengthGood false body.length = true) (hx : s.host.transfer = some x)
    (hk : x.kind = .write) (h : commitRefusal (filled s.table body) (counted x body) = none) :
    exec (.tableData false body) s = .next
      { s.answered 0x91 [0x00] with
        host := { (s.answered 0x91 [0x00]).host with transfer := none },
        table := { (filled s.table body).commit x.block with staged := [] } } := by
  refine final_closes hs hi ?_
  rw [tableData_finalWrite (s := hostFrameEnds s) hgood hx hk, finalWrite_commits h]
  rfl

end

/-- A number has no bit from `n` on exactly where it is below `2 ^ n`. -/
theorem toNat_lt_iff_bits {w : Nat} (x : BitVec w) (n : Nat) :
    x.toNat < 2 ^ n ↔ ∀ k, n ≤ k → x.getLsbD k = false :=
  ⟨fun h k hk => Nat.testBit_lt_two_pow (Nat.lt_of_lt_of_le h (Nat.pow_le_pow_right (by decide) hk)),
    fun h => Nat.lt_pow_two_of_testBit _ h⟩

/-- A fractions byte fits in six bits exactly where bits 6 and 7 are clear. -/
theorem fractions_lt_iff (b : Byte) :
    b.toNat < 64 ↔ b.getLsbD 6 = false ∧ b.getLsbD 7 = false := by
  rw [show (64 : Nat) = 2 ^ 6 from rfl, toNat_lt_iff_bits]
  refine ⟨fun h => ⟨h 6 (by decide), h 7 (by decide)⟩, fun ⟨h6, h7⟩ k hk => ?_⟩
  rcases Nat.lt_or_ge k 8 with hlt | hge
  · have : k = 6 ∨ k = 7 := by omega
    rcases this with rfl | rfl
    · exact h6
    · exact h7
  · exact BitVec.getLsbD_of_ge b k hge

/-- An entry is valid when none of the eight conditions of R27 holds. -/
theorem valid_iff_bits (r : RawEntry) : r.valid = true ↔
    r.card ≠ 0 ∧ r.cls.toNat ≤ 2 ∧ (r.fractions.getLsbD 6 = false ∧ r.fractions.getLsbD 7 = false) ∧
      r.tariff.toNat ≤ 15 ∧ (∀ k, 2 ≤ k → r.flags.getLsbD k = false) ∧
      (∀ k, 12 ≤ k → r.restriction.getLsbD k = false) ∧
      (r.flags.getLsbD 1 = false → r.restriction = 0) ∧ r.spare = 0 := by
  have hpresent : (r.flags.getLsbD 1 = true ∨ r.restriction = 0) ↔
      (r.flags.getLsbD 1 = false → r.restriction = 0) := by
    cases r.flags.getLsbD 1 <;> simp
  rw [valid_iff, hpresent, fractions_lt_iff, ← toNat_lt_iff_bits r.flags 2,
    ← toNat_lt_iff_bits r.restriction 12]
  rfl

/-- Settles O19, by the refusal that the checks of R27 give or by the commit. -/
theorem finalFrameCommits : Obligations.FinalFrameCommits := by
  refine ⟨fun s body x hs hi h12 h96 hx hk => ?_, valid_iff_bits⟩
  have hgood : dataLengthGood false body.length = true := dataLength_good h12 h96 nofun
  have judged := fun hp hn hv =>
    commitRefusal_valid (filled s.table body) (counted x body) hp hn hv
  refine ⟨fun hp => ?_, fun hp hn => ?_, fun hp hn i r hr hv hfirst => ?_,
    fun hp hn hv i hoff hfirst => ?_, fun hp hn hv hfresh => ?_⟩
  · exact final_refused hs hi hgood hx hk (commitRefusal_pinned _ _ hp)
  · exact final_refused hs hi hgood hx hk (commitRefusal_badCount _ _ hp hn)
  · exact final_refused hs hi hgood hx hk
      (commitRefusal_badValue (filled s.table body) (counted x body) hp hn hr hv hfirst)
  · refine final_refused hs hi hgood hx hk ((judged hp hn hv).trans ?_)
    exact congrArg (Option.map _) (firstDuplicate_some (filled s.table body) x.block hoff hfirst)
  · refine final_commits hs hi hgood hx hk ((judged hp hn hv).trans ?_)
    exact congrArg (Option.map _)
      ((firstDuplicate_none_iff (filled s.table body) x.block _).mpr hfresh)

/-! ### The comparison of a verify transfer (R35) -/

/-- Position `i` of a block differs from what was staged, or is used beyond it (R35). -/
def differs (staged : List RawEntry) (live : List Entry) (i : Nat) : Bool :=
  match staged[i]? with
  | some r => decide (r ≠ Block.slot { entries := live, pinned := false } i)
  | none => decide (i < live.length)

/-- The first position is compared, and the rest as lists of their own. -/
theorem mismatches_step (staged : List RawEntry) (live : List Entry) :
    mismatches staged live =
      (if differs staged live 0 then 1 else 0) + mismatches staged.tail live.tail := by
  rcases staged with _ | ⟨r, staged⟩ <;> rcases live with _ | ⟨e, live⟩
  · rfl
  · simp [mismatches, differs, Nat.add_comm]
  · simp [mismatches, differs, Block.slot]
  · simp [mismatches, differs, Block.slot]

theorem differs_tail (staged : List RawEntry) (live : List Entry) (i : Nat) :
    differs staged live (i + 1) = differs staged.tail live.tail i := by
  have hlength : decide (i + 1 < live.length) = decide (i < live.tail.length) :=
    decide_eq_decide.mpr (by rw [List.length_tail]; omega)
  have hslot : Block.slot ⟨live, false⟩ (i + 1) = Block.slot ⟨live.tail, false⟩ i := by
    simp only [Block.slot, List.getElem?_tail]
  simp only [differs, hlength, hslot, List.getElem?_tail]

/-- The count of the positions that differ, among any number of them that holds both lists. -/
theorem mismatches_count (n : Nat) (staged : List RawEntry) (live : List Entry)
    (hs : staged.length ≤ n) (hl : live.length ≤ n) :
    mismatches staged live = (List.range n).countP (differs staged live) := by
  induction n generalizing staged live with
  | zero =>
    rw [List.eq_nil_of_length_eq_zero (Nat.le_zero.mp hs),
      List.eq_nil_of_length_eq_zero (Nat.le_zero.mp hl)]
    rfl
  | succ n ih =>
    have htail : differs staged live ∘ Nat.succ = differs staged.tail live.tail :=
      funext fun i => differs_tail staged live i
    rw [List.range_succ_eq_map, List.countP_cons, List.countP_map, htail, mismatches_step, Nat.add_comm,
      ih staged.tail live.tail (by simp; omega) (by simp; omega)]

/-- Settles O21, by the comparison position by position. -/
theorem finalFrameVerifies : Obligations.FinalFrameVerifies := by
  refine ⟨fun s body x hs hi h12 h96 hx hk => ?_, fun staged b hs hb => ?_⟩
  · refine final_closes (t := filled s.table body) hs hi ?_
    rw [tableData_finalVerify (s := hostFrameEnds s) (dataLength_good h12 h96 nofun) hx hk,
      finalVerify_eq]
    rfl
  · rw [mismatches_count 64 staged b.entries hs hb, List.countP_eq_length_filter]
    rfl

end Sys2Proof.Proofs.CardTables
end

section
/-! Proofs, PresentRefusals: a PRESENT refused by the first check that fails, and what the checks read (R22, R42, R48, R60 to R62). -/

namespace Sys2Proof.Proofs.CardTables

open Sys2Proof Sys2Proof.Machine

/-! ### A refusal (R60, R66, R68) -/

/-- The end of a reader frame is a matter of the reader line alone. -/
theorem readerFrameEnds_eq (s : State) :
    readerFrameEnds s = { s with reader := (readerFrameEnds s).reader } := by
  unfold readerFrameEnds startVerdict
  repeat' split
  all_goals rfl

theorem lowestEstimate_reader (s : State) (r : ReaderLine) (l : List Column) :
    lowestEstimate { s with reader := r } l = lowestEstimate s l := by
  induction l with
  | nil => rfl
  | cons c l ih => simp only [lowestEstimate, ih]

theorem decideResident_reader (s : State) (r : ReaderLine) (c : Column) (f : Found) :
    decideResident { s with reader := r } c f = decideResident s c f := by
  have hredirect : redirect { s with reader := r } f.host c = redirect s f.host c :=
    lowestEstimate_reader s r _
  simp only [decideResident, hredirect]
  rfl

/-- The decision does not look at the reader line. -/
theorem decidePresent_reader (s : State) (r : ReaderLine) (c : Column) (card : CardNumber) :
    decidePresent { s with reader := r } c card = decidePresent s c card := by
  simp only [decidePresent, decideResident_reader]
  rfl

/-- Every verdict but a grant's counts as a denial and is handed to the line (R66, R68). -/
theorem sendVerdict_denial (c : Column) {v : VerdictCode} (remaining : Option Nat)
    (redirect : Option Column) (s : State) (hg : v ≠ .grant) (hsg : v ≠ .serviceGrant) :
    sendVerdict c v remaining redirect s =
      handVerdict { column := c, code := v, remaining := remaining, redirect := redirect }
        { s with
          access := s.access.set c
            { s.access[c] with denials := min 65535 (s.access[c].denials + 1) } } := by
  cases v
  · exact absurd rfl hg
  · exact absurd rfl hsg
  all_goals rfl

section
variable {s : State} {c : Column} {card : CardNumber}

/-- A PRESENT is not received while a verdict is being sent. -/
theorem present_deaf (hs : s.chosen) (h : s.reader.sending.isSome = true) :
    exec (.present c card) s = .next s := by
  simp only [exec, execPresent]
  rw [event_chosen _ s hs, if_pos h]

/-- A PRESENT completed while the blocks take a restart is discarded. -/
theorem present_restarting (hs : s.chosen) (hq : s.reader.sending = none)
    (h : s.restarting = true) : exec (.present c card) s = .next (readerFrameEnds s) := by
  simp only [exec, execPresent]
  rw [event_chosen _ s hs, if_neg (by simp [hq]), if_pos h]

/-- A PRESENT that the decision refuses: the verdict is handed on and the denial counted. -/
theorem present_refused {v : VerdictCode} {remaining : Option Nat} {redirect : Option Column}
    (hs : s.chosen) (hq : s.reader.sending = none) (hr : s.restarting = false)
    (hg : v ≠ .grant) (hsg : v ≠ .serviceGrant)
    (h : decidePresent s c card = .refuse v remaining redirect) :
    exec (.present c card) s = .next
      (handVerdict { column := c, code := v, remaining := remaining, redirect := redirect }
        { readerFrameEnds s with
          access := s.access.set c
            { s.access[c] with denials := min 65535 (s.access[c].denials + 1) } }) := by
  have hdecide : decidePresent (readerFrameEnds s) c card = .refuse v remaining redirect := by
    rw [readerFrameEnds_eq, decidePresent_reader, h]
  have haccess : (readerFrameEnds s).access = s.access := by simp
  simp only [exec, execPresent]
  rw [event_chosen _ s hs, if_neg (by simp [hq]), if_neg (by simp [hr])]
  simp only [takePresent, hdecide]
  rw [sendVerdict_denial c remaining redirect _ hg hsg, haccess]

/-! ### The checks in order (R60 to R62) -/

theorem decide_disabled (h : s.sups[c].condition = .disabled) :
    decidePresent s c card = .refuse .outOfService none none := if_pos h

theorem decide_busy (h1 : s.sups[c].condition ≠ .disabled) (h : s.access[c].state ≠ .locked) :
    decidePresent s c card = .refuse .busy none none := by
  rw [decidePresent, if_neg h1, if_pos h]

theorem decide_claimed (h1 : s.sups[c].condition ≠ .disabled) (h2 : s.access[c].state = .locked)
    (h : s.round.claims c = true) : decidePresent s c card = .refuse .round none none := by
  rw [decidePresent, if_neg h1, if_neg (not_not_intro h2), if_pos h]

/-- With the column's own checks passed, the lookup decides. -/
theorem decide_unknown (h1 : s.sups[c].condition ≠ .disabled) (h2 : s.access[c].state = .locked)
    (h3 : s.round.claims c = false) (h : lookupPresent card s = none) :
    decidePresent s c card = .refuse .unknownCard none none := by
  simp only [decidePresent, if_neg h1, if_neg (not_not_intro h2), h3, h, Bool.false_eq_true, if_false]

variable {f : Found}

theorem decide_blocked (h1 : s.sups[c].condition ≠ .disabled) (h2 : s.access[c].state = .locked)
    (h3 : s.round.claims c = false) (h4 : lookupPresent card s = some f)
    (h : f.host.blocked = true) : decidePresent s c card = .refuse .blocked none none := by
  simp only [decidePresent, if_neg h1, if_neg (not_not_intro h2), h3, h4, h, Bool.false_eq_true,
    if_false, if_true]

theorem decide_crew (h1 : s.sups[c].condition ≠ .disabled) (h2 : s.access[c].state = .locked)
    (h3 : s.round.claims c = false) (h4 : lookupPresent card s = some f)
    (h5 : f.host.blocked = false) (h : f.host.cls = .crew) :
    decidePresent s c card = decideCrew s c f := by
  simp only [decidePresent, if_neg h1, if_neg (not_not_intro h2), h3, h4, h5, h, Bool.false_eq_true,
    if_false]

theorem decide_resident (h1 : s.sups[c].condition ≠ .disabled) (h2 : s.access[c].state = .locked)
    (h3 : s.round.claims c = false) (h4 : lookupPresent card s = some f)
    (h5 : f.host.blocked = false) (h : f.host.cls ≠ .crew) :
    decidePresent s c card = decideResident s c f := by
  simp only [decidePresent, if_neg h1, if_neg (not_not_intro h2), h3, h4, h5, Bool.false_eq_true,
    if_false]
  cases hcls : f.host.cls with
  | crew => exact absurd hcls h
  | resident => rfl
  | business => rfl

/-- The crew path refuses a column that does not admit crew, then a journal at its ceiling (R61, R63). -/
theorem decideCrew_outOfService (h : s.sups[c].admitsCrew = false) :
    decideCrew s c f = .refuse .outOfService none none := by
  rw [decideCrew, h]
  rfl

theorem decideCrew_journalFull (h1 : s.sups[c].admitsCrew = true)
    (h : 2036 ≤ s.journal.records.length + s.journal.reservations) :
    decideCrew s c f = .refuse .journalFull none none := by
  rw [decideCrew, h1]
  exact if_pos h

theorem decideResident_outOfService (h : s.sups[c].condition ≠ .inService) :
    decideResident s c f = .refuse .outOfService none none := if_pos h

variable (h1 : s.sups[c].condition = .inService)
include h1

theorem decideResident_wrongFraction
    (h : ¬f.host.fractions.getLsbD s.profile.columns[c].fraction.val = true) :
    decideResident s c f = .refuse .wrongFraction none none := by
  rw [decideResident, if_neg (not_not_intro h1), if_pos (by simpa using h)]

variable (h2 : f.host.fractions.getLsbD s.profile.columns[c].fraction.val = true)
include h2

theorem decideResident_notHere (h : f.host.admitsColumn c = false) :
    decideResident s c f = .refuse .notHere none none := by
  simp only [decideResident, if_neg (not_not_intro h1), h2, h, Bool.not_true, Bool.not_false,
    Bool.false_eq_true, if_false, if_true]

variable (h3 : f.host.admitsColumn c = true)
include h3

theorem decideResident_quietHours (h : quiet s c = true) :
    decideResident s c f = .refuse .quietHours none none := by
  simp only [decideResident, if_neg (not_not_intro h1), h2, h3, h, Bool.not_true,
    Bool.false_eq_true, if_false, if_true]

variable (h4 : quiet s c = false)
include h4

theorem decideResident_full (h : s.fills[c].band = .full) :
    decideResident s c f = .refuse .full none (redirect s f.host c) := by
  simp only [decideResident, if_neg (not_not_intro h1), h2, h3, h4, h, Bool.not_true,
    Bool.false_eq_true, if_false, if_true]

variable (h5 : s.fills[c].band ≠ .full)
include h5

theorem decideResident_quotaSpent (h : f.effective = 0) :
    decideResident s c f = .refuse .quotaSpent (some 0) none := by
  simp only [decideResident, if_neg (not_not_intro h1), h2, h3, h4, if_neg h5, h, Bool.not_true,
    Bool.false_eq_true, if_false, if_true]

theorem decideResident_journalFull (h6 : f.effective ≠ 0)
    (h : 2016 ≤ s.journal.records.length + s.journal.reservations) :
    decideResident s c f = .refuse .journalFull none none := by
  have hceiling : residentCeiling ≤ s.journal.sum := h
  simp only [decideResident, if_neg (not_not_intro h1), h2, h3, h4, if_neg h5, if_neg h6, hceiling,
    Bool.not_true, Bool.false_eq_true, if_false, if_true]

end

/-! ### What the checks read (R22, R42, R48, R61, R62) -/

/-- A column is in its quiet window only with the clock set, the window wrapping past midnight (R48). -/
theorem quiet_iff (s : State) (c : Column) :
    quiet s c = true ↔ ∃ start stop, s.profile.columns[c].quietWindow = some (start, stop) ∧
      s.clock.timeSet = true ∧
      ((start < stop ∧ start ≤ s.clock.second / 60 ∧ s.clock.second / 60 < stop) ∨
        (stop ≤ start ∧ (start ≤ s.clock.second / 60 ∨ s.clock.second / 60 < stop))) := by
  unfold quiet
  match hw : s.profile.columns[c].quietWindow with
  | none => exact ⟨nofun, fun ⟨_, _, h, _⟩ => nomatch h⟩
  | some (start, stop) =>
    have hread : inQuietWindow s.clock (some (start, stop)) = true ↔ s.clock.timeSet = true ∧
        ((start < stop ∧ start ≤ s.clock.second / 60 ∧ s.clock.second / 60 < stop) ∨
          (stop ≤ start ∧ (start ≤ s.clock.second / 60 ∨ s.clock.second / 60 < stop))) := by
      simp only [inQuietWindow, Bool.and_eq_true]
      refine and_congr_right fun _ => ?_
      split <;> simp only [Bool.and_eq_true, Bool.or_eq_true, decide_eq_true_eq] <;> omega
    rw [hread]
    constructor
    · exact fun h => ⟨start, stop, rfl, h⟩
    · rintro ⟨a, z, h, hrest⟩
      cases h
      exact hrest

/-- A column admits crew in service, and out of service for a reason that leaves it safe (R2, R61). -/
theorem admitsCrew_iff (p : Supervisor) : p.admitsCrew = true ↔ p.condition = .inService ∨
    p.condition = .outOfService ∧ (p.reason = some .withdrawn ∨ p.reason = some .hatchFault ∨
      p.reason = some .forcedHatch) := by
  unfold Supervisor.admitsCrew
  cases p.condition with
  | inService => simp
  | outOfService => rcases p.reason with _ | _ | _ | _ | _ | _ <;> simp [Reason.admitsCrew]
  | disabled => simp
  | absent => simp

/-- A card may open a column as far as its restriction goes (R62). -/
theorem admitsColumn_iff (h : HostFields) (c : Column) : h.admitsColumn c = true ↔
    ∀ set, h.restriction = some set → set.getLsbD c.val = true := by
  unfold HostFields.admitsColumn
  cases h.restriction with
  | none => exact ⟨fun _ => nofun, fun _ => rfl⟩
  | some set => exact ⟨fun hc _ he => Option.some.inj he ▸ hc, fun hc => hc set rfl⟩

section
variable {s : State} {card : CardNumber}

theorem lookupPresent_provisional (h : s.table.provisional = true) :
    lookupPresent card s =
      if s.profile.rangeLow ≤ card.toNat ∧ card.toNat ≤ s.profile.rangeHigh then
        some { host := provisionalFields card, effective := 0, provisional := true }
      else none := if_pos h

theorem lookupPresent_absent (h : s.table.provisional = false) (hf : s.table.find card = none) :
    lookupPresent card s = none := by
  simp only [lookupPresent, h, hf, Bool.false_eq_true, if_false, Option.map_none]

theorem lookupPresent_held (h : s.table.provisional = false) {b : Fin 64} {i : Nat} {e : Entry}
    (hf : s.table.find card = some (b, i, e)) :
    lookupPresent card s =
      some { host := e.host, effective := e.effective s.period, provisional := false } := by
  simp only [lookupPresent, h, hf, Bool.false_eq_true, if_false, Option.map_some]

end

/-- Settles O36: each check by the decision it gives, the checks before it passed. -/
theorem presentRefused : Obligations.PresentRefused := by
  refine ⟨fun s c card hs => ⟨present_deaf hs, present_restarting hs, fun hq hr => ?_⟩,
    fun s c => ⟨quiet_iff s c, admitsCrew_iff _, fun h => admitsColumn_iff h c⟩,
    fun s card => ⟨lookupPresent_provisional, fun hp => ⟨fun habsent => ?_, ?_⟩⟩⟩
  · refine ⟨fun h => ?_, fun h1 h => ?_, fun h1 h2 => ⟨fun h => ?_, fun h3 => ⟨fun h => ?_, ?_⟩⟩⟩
    · exact present_refused hs hq hr nofun nofun (decide_disabled h)
    · exact present_refused hs hq hr nofun nofun (decide_busy h1 h)
    · exact present_refused hs hq hr nofun nofun (decide_claimed h1 h2 h)
    · exact present_refused hs hq hr nofun nofun (decide_unknown h1 h2 h3 h)
    · intro f h4
      refine ⟨fun h => ?_, fun h5 hcls => ?_, fun h5 hcls => ?_⟩
      · exact present_refused hs hq hr nofun nofun (decide_blocked h1 h2 h3 h4 h)
      · have path := decide_crew h1 h2 h3 h4 h5 hcls
        refine ⟨fun h => ?_, fun h6 h => ?_⟩
        · exact present_refused hs hq hr nofun nofun (path.trans (decideCrew_outOfService h))
        · exact present_refused hs hq hr nofun nofun (path.trans (decideCrew_journalFull h6 h))
      · have path := decide_resident h1 h2 h3 h4 h5 hcls
        have refuse := fun v m r hg hsg h =>
          present_refused (v := v) (remaining := m) (redirect := r) hs hq hr hg hsg (path.trans h)
        refine ⟨fun h => ?_, fun h6 => ⟨fun h => ?_, fun h7 h => ?_, fun h7 h8 h => ?_,
          fun h7 h8 h9 => ⟨fun h => ?_, fun h10 h => ?_, fun h10 h11 h => ?_⟩⟩⟩
        · exact refuse _ _ _ nofun nofun (decideResident_outOfService h)
        · exact refuse _ _ _ nofun nofun (decideResident_wrongFraction h6 h)
        · exact refuse _ _ _ nofun nofun (decideResident_notHere h6 h7 h)
        · exact refuse _ _ _ nofun nofun (decideResident_quietHours h6 h7 h8 h)
        · exact refuse _ _ _ nofun nofun (decideResident_full h6 h7 h8 h9 h)
        · exact refuse _ _ _ nofun nofun (decideResident_quotaSpent h6 h7 h8 h9 h10 h)
        · exact refuse _ _ _ nofun nofun (decideResident_journalFull h6 h7 h8 h9 h10 h11 h)
  · refine lookupPresent_absent hp ?_
    rcases habsent with rfl | habsent
    · exact find_zero _
    · exact find_absent habsent
  · intro h0 hn b e he hc
    obtain ⟨i, held⟩ := List.mem_iff_getElem?.mp he
    exact lookupPresent_held hp (find_held h0 hn held hc)

end Sys2Proof.Proofs.CardTables
end

section
/-! Proofs, ClockPeriod: TIME SET, the clock's advance and PERIOD SET (R45, R46, R49). -/

namespace Sys2Proof.Proofs.ClockPeriod

open Sys2Proof Sys2Proof.Machine Sys2Proof.Proofs.CardTables

/-- A served request whose action changes the state beside the link's request in hand. -/
theorem served_changed {s t : State} {kind : Byte} {act : State → State × List Byte}
    {reply : List Byte} (hs : s.chosen) (hi : s.host.inHand = none) (hk : kind ≠ 0x83)
    (h : act (hostFrameEnds s) = (t, reply)) :
    event (serve kind act) s =
      .next { t with host := { t.host with inHand := some ⟨⟨kind, reply⟩, false, false⟩ } } := by
  rw [served hs hi, h, putInHand_plain kind reply _ hk]

/-! ### TIME SET (R46) -/

/-- Three bytes, most significant first, as one number. -/
theorem number_three (a b c : Byte) :
    number [a, b, c] = a.toNat * 65536 + b.toNat * 256 + c.toNat := by
  simp only [number, List.foldl_cons, List.foldl_nil]
  omega

section
variable {s : State} {d1 d0 s2 s1 s0 : Byte}

theorem timeSet_badValue (h : 86399 < number [s2, s1, s0]) :
    timeSet [d1, d0, s2, s1, s0] s = (s, [0x04]) := if_pos h

theorem timeSet_sets (h : ¬86399 < number [s2, s1, s0]) :
    timeSet [d1, d0, s2, s1, s0] s =
      (setClock (d1 ++ d0) (number [s2, s1, s0]) s,
        [0x00] ++ bytes 2 s.clock.day.toNat ++ bytes 3 s.clock.second ++ [flag s.clock.timeSet]) :=
  if_neg h

end

/-! ### The clock's advance (R45; log 2, 22) -/

/-- The advance happens no earlier than it is due, and changes the clock and the time base alone. -/
theorem clockAdvance_advances {s : State} (hs : s.chosen) :
    exec .clockAdvance s = .next
      { s with
        now := max s.now (s.clock.lastAdvance + 1000),
        clock := s.clock.advance } := by
  rw [exec, execClockAdvance, event_chosen _ s hs]
  rfl

/-! ### PERIOD SET (R49) and the effective remaining (R51) -/

theorem periodSet_two (s : State) (p1 p0 : Byte) :
    periodSet [p1, p0] s = ({ s with period := p1 ++ p0 }, [0x00, p1, p0]) := rfl

theorem effective_unlimited {e : Entry} (period : BitVec 16) (h : e.host.allowance = 255) :
    e.effective period = 255 := if_pos h

theorem effective_current {e : Entry} {period : BitVec 16} (ha : e.host.allowance ≠ 255)
    (hp : e.stamp = some period) : e.effective period = e.remaining :=
  (if_neg ha).trans (if_pos hp)

/-- In a period other than the stamped one the whole allowance is left, also where it is 255. -/
theorem effective_otherPeriod {e : Entry} {period : BitVec 16} (hp : e.stamp ≠ some period) :
    e.effective period = e.host.allowance := by
  by_cases ha : e.host.allowance = 255
  · rw [effective_unlimited period ha, ha]
  · exact (if_neg ha).trans (if_neg hp)

/-- Settles O15: the two requests by what their actions change, the advance by its event. -/
theorem clockAndPeriodSet : Obligations.ClockAndPeriodSet := by
  refine ⟨⟨fun s d1 d0 s2 s1 s0 hs hi => ?_, fun s hs => clockAdvance_advances hs⟩,
    fun s p1 p0 hs hi => ⟨?_, fun _ => effective_otherPeriod⟩⟩
  · simp only [← number_three]
    split
    case isTrue h => exact served_unchanged hs hi (by decide) (timeSet_badValue h)
    case isFalse h => exact served_changed hs hi (by decide) (timeSet_sets h)
  · exact served_changed hs hi (by decide) (periodSet_two _ p1 p0)

end Sys2Proof.Proofs.ClockPeriod
end

section
/-! Proofs, Quotas: the charge of one use, by the allowance and the stamp (R51, R52). -/

namespace Sys2Proof.Proofs.Quotas

open Sys2Proof Sys2Proof.Machine Sys2Proof.Proofs.ClockPeriod

section
variable {e : Entry} {period : BitVec 16}

/-! ### An allowance of 255: no use is spent (R52) -/

theorem charge_unlimited (h : e.host.allowance = 255) :
    e.charge period = { e with stamp := some period } := by
  simp only [Entry.charge, if_pos h]

theorem chargeAnswer_unlimited (h : e.host.allowance = 255) : e.chargeAnswer period = 255 := if_pos h

/-! ### Any other allowance: one use of the effective remaining is spent and answered (R52) -/

theorem charge_limited (h : e.host.allowance ≠ 255) :
    e.charge period = { e with remaining := e.effective period - 1, stamp := some period } := by
  simp only [Entry.charge, if_neg h]

theorem chargeAnswer_limited (h : e.host.allowance ≠ 255) :
    e.chargeAnswer period = e.effective period - 1 := if_neg h

end

/-- Settles O26: a limited card is charged from its effective remaining, which its stamp decides. -/
theorem chargeSpendsOneUse : Obligations.ChargeSpendsOneUse := by
  intro e period
  refine ⟨fun h => ⟨effective_unlimited period h, charge_unlimited h, chargeAnswer_unlimited h⟩,
    fun ha hp => ?_, fun ha hp => ?_⟩
  · have left := effective_current ha hp
    exact ⟨left, left ▸ charge_limited ha, left ▸ chargeAnswer_limited ha⟩
  · have left := effective_otherPeriod hp
    exact ⟨left, left ▸ charge_limited ha, left ▸ chargeAnswer_limited ha⟩

end Sys2Proof.Proofs.Quotas
end

section
/-! Proofs, Redirects: the redirect of a FULL verdict (R62). -/

namespace Sys2Proof.Proofs.Redirects

open Sys2Proof Sys2Proof.Machine

variable (s : State)

/-- Column `k` comes before `j`: it is emptier, or as empty and not of a higher number (R62). -/
def Before (k j : Column) : Prop :=
  s.fills[k].estimate < s.fills[j].estimate ∨ s.fills[k].estimate = s.fills[j].estimate ∧ k ≤ j

theorem Before.refl (k : Column) : Before s k k := .inr ⟨rfl, le_rfl⟩

variable {s}

theorem Before.trans {i j k : Column} (hij : Before s i j) (hjk : Before s j k) : Before s i k := by
  simp only [Before, Fin.le_def] at *
  omega

theorem Before.antisymm {j k : Column} (hjk : Before s j k) (hkj : Before s k j) : j = k := by
  simp only [Before, Fin.le_def, Fin.ext_iff] at *
  omega

theorem lowestEstimate_none_iff (l : List Column) : lowestEstimate s l = none ↔ l = [] := by
  cases l with
  | nil => exact ⟨fun _ => rfl, fun _ => rfl⟩
  | cons c cs =>
    refine iff_of_false (fun h => ?_) nofun
    simp only [lowestEstimate] at h
    repeat' split at h
    all_goals cases h

/-- Of columns in ascending order the one named is listed and comes before every other listed. -/
theorem lowestEstimate_before {l : List Column} (hl : l.Pairwise (· < ·)) {k : Column}
    (h : lowestEstimate s l = some k) : k ∈ l ∧ ∀ j ∈ l, Before s k j := by
  induction l generalizing k with
  | nil => cases h
  | cons c cs ih =>
    obtain ⟨hc, hcs⟩ := List.pairwise_cons.mp hl
    simp only [lowestEstimate] at h
    split at h
    case h_1 hnone =>
      cases h
      cases (lowestEstimate_none_iff cs).mp hnone
      simp [Before.refl]
    case h_2 m hm =>
      obtain ⟨hmem, hbefore⟩ := ih hcs hm
      split at h
      case isTrue hle =>
        cases h
        have hcm : Before s c m := (Nat.lt_or_eq_of_le hle).imp_right fun e => ⟨e, (hc m hmem).le⟩
        exact ⟨List.mem_cons_self, List.forall_mem_cons.mpr
          ⟨.refl s c, fun j hj => hcm.trans (hbefore j hj)⟩⟩
      case isFalse hgt =>
        cases h
        exact ⟨List.mem_cons_of_mem _ hmem, List.forall_mem_cons.mpr
          ⟨.inl (Nat.lt_of_not_le hgt), hbefore⟩⟩

/-- The column named is exactly the one listed that comes before every other. -/
theorem lowestEstimate_iff {l : List Column} (hl : l.Pairwise (· < ·)) (k : Column) :
    lowestEstimate s l = some k ↔ k ∈ l ∧ ∀ j ∈ l, Before s k j := by
  refine ⟨lowestEstimate_before hl, fun ⟨hk, hbefore⟩ => ?_⟩
  cases h : lowestEstimate s l with
  | none => rw [(lowestEstimate_none_iff l).mp h] at hk; cases hk
  | some m =>
    obtain ⟨hm, hfirst⟩ := lowestEstimate_before hl h
    rw [(hfirst k hk).antisymm (hbefore m hm)]

theorem mem_redirects_iff (h : HostFields) (c k : Column) :
    k ∈ allColumns.filter (redirectQualifies s h c) ↔ redirectQualifies s h c k = true := by
  have hall : ∀ k : Column, k ∈ allColumns := by decide
  rw [List.mem_filter]
  exact and_iff_right (hall k)

/-- Settles O37: of the columns that qualify, in ascending order, the redirect comes before the others. -/
theorem redirectNamesEmptiestColumn : Obligations.RedirectNamesEmptiestColumn := by
  intro s h c qualifies
  have hq (k : Column) : redirectQualifies s h c k = true ↔ qualifies k := by
    simp only [redirectQualifies, Bool.and_eq_true, decide_eq_true_eq, Bool.not_eq_true', qualifies,
      and_assoc]
  have ascending : (allColumns.filter (redirectQualifies s h c)).Pairwise (· < ·) :=
    List.Pairwise.filter _ (by decide)
  refine ⟨?_, fun k => ?_⟩
  · simp only [redirect, lowestEstimate_none_iff, List.eq_nil_iff_forall_not_mem, mem_redirects_iff, hq]
  · simp only [redirect, lowestEstimate_iff ascending, mem_redirects_iff, hq]
    rfl

end Sys2Proof.Proofs.Redirects
end

section
/-! Proofs, AccessOperations: what each operation of an access machine makes of the state as a whole: a verdict handed on, the homing, a grant undone or cut, an opening settled (R66 to R83). -/

namespace Sys2Proof.Proofs.AccessMachines

open Sys2Proof Sys2Proof.Machine Sys2Proof.Proofs.CardTables

/-! ### The reader line (R66, R167) -/

/-- A verdict handed on is a matter of the reader line alone. -/
theorem handVerdict_eq (v : Verdict) (s : State) :
    handVerdict v s = { s with reader := (handVerdict v s).reader } := by
  unfold handVerdict startVerdict
  repeat' split
  all_goals rfl

/-- Which verdict begins is decided by the reader line alone. -/
theorem startVerdict_congr {s t : State} (h : t.reader = s.reader) :
    (startVerdict t).reader = (startVerdict s).reader := by
  simp only [startVerdict, h]
  split
  · exact h
  · split
    · exact h
    · rfl

/-- What becomes of a verdict handed on is decided by the reader line alone. -/
theorem handVerdict_congr (v : Verdict) {s t : State} (h : t.reader = s.reader) :
    (handVerdict v t).reader = (handVerdict v s).reader := by
  simp only [handVerdict, h]
  refine startVerdict_congr ?_
  split
  · rfl
  · exact h

/-- What becomes of the line when its frame ends is decided by the reader line alone. -/
theorem readerFrameEnds_congr {s t : State} (h : t.reader = s.reader) :
    (readerFrameEnds t).reader = (readerFrameEnds s).reader :=
  startVerdict_congr (by simp only [h])

section
variable (s : State) (c : Column)

/-- A verdict that is no grant counts as a denial and goes to the reader line (R66, R68). -/
theorem sendDenial_eq {v : VerdictCode} (hg : v ≠ .grant) (hsg : v ≠ .serviceGrant) :
    sendVerdict c v none none s =
      { s with
        reader := (handVerdict ⟨c, v, none, none⟩ s).reader,
        access := s.access.set c
          { s.access[c] with denials := min 65535 (s.access[c].denials + 1) } } := by
  rw [sendVerdict_denial c none none s hg hsg, handVerdict_eq, handVerdict_congr _ (s := s)]
  rfl

/-! ### The homing (R6, R77, R79) -/

theorem homeRequest_home (h : s.sups[c].homeAlone = true) :
    homeRequest c s = s.modSup c fun p => { p with latch := .home, drive := .off, travel := none } :=
  if_pos h

theorem homeRequest_away (h : s.sups[c].homeAlone = false) :
    homeRequest c s = startTravel c .homing .towardHome s := if_neg (ne_true_of_eq_false h)

/-- A latch that is not at home starts its travel, and the machine waits in HOMING. -/
theorem goHoming_away (h : s.sups[c].homeAlone = false) :
    goHoming c s =
      { s with
        sups := s.sups.set c
          { s.sups[c] with
            latch := .homing, drive := .towardHome, travel := some (s.now + s.profile.travelLimit) },
        access := s.access.set c
          { s.access[c] with state := .homing, grantTimer := none, openTimer := none } } := by
  simp only [goHoming, homeRequest_away s c h]
  exact if_neg (by simp [startTravel])

/-- A latch that is at home takes the machine to LOCKED in the same event. -/
theorem goHoming_home (h : s.sups[c].homeAlone = true) :
    goHoming c s =
      { s with
        sups := s.sups.set c { s.sups[c] with latch := .home, drive := .off, travel := none },
        access := s.access.set c
          { s.access[c] with
            state := .locked, context := none, grantTimer := none, openTimer := none,
            cancelMark := false } } := by
  simp only [goHoming, homeRequest_home s c h]
  rw [if_pos (by simp)]
  simp [arriveLocked, State.modAccess, State.modSup]

/-! ### A grant undone or cut (R53, R72, R142) -/

theorem undoGrant_eq {g : GrantContext} (h : s.access[c].context = some g) :
    undoGrant c s =
      { s with
        table := if g.service then s.table else s.table.refund g.card g.period s.period,
        journal := { s.journal with reservations := s.journal.reservations - 1 } } := by
  simp only [undoGrant, h, releaseReservation, refundGrant]
  split <;> rfl

/-- A grant cut over a latch that is not at home: the denial and its verdict, the grant undone, the
latch on its way home with the context kept. -/
theorem cutGrant_away {g : GrantContext} {v : VerdictCode} (hg : v ≠ .grant) (hsg : v ≠ .serviceGrant)
    (hcontext : s.access[c].context = some g) (haway : s.sups[c].homeAlone = false) :
    cutGrant c v s =
      { s with
        reader := (handVerdict ⟨c, v, none, none⟩ s).reader,
        table := if g.service then s.table else s.table.refund g.card g.period s.period,
        journal := { s.journal with reservations := s.journal.reservations - 1 },
        sups := s.sups.set c
          { s.sups[c] with
            latch := .homing, drive := .towardHome, travel := some (s.now + s.profile.travelLimit) },
        access := s.access.set c
          { s.access[c] with
            state := .homing, grantTimer := none, openTimer := none,
            denials := min 65535 (s.access[c].denials + 1) } } := by
  rw [cutGrant, sendDenial_eq s c hg hsg, undoGrant_eq (g := g) _ c (by simpa using hcontext),
    goHoming_away _ c (by simpa using haway)]
  simp

/-! ### Reports (R2, R77) -/

/-- No LOCKED report is delivered by a machine in another state. -/
theorem deliverLocked_notLocked (h : s.access[c].state ≠ .locked) : deliverLocked c s = s :=
  if_neg fun hl => h hl.1

/-- No LOCKED report is delivered without the drain mark. -/
theorem deliverLocked_unmarked (h : s.access[c].drainMark = false) : deliverLocked c s = s :=
  if_neg fun hl => ne_true_of_eq_false h hl.2

theorem fault_eq (r : Reason) {p : Supervisor} (h : p.condition ≠ .disabled) :
    p.fault r =
      { p with
        condition := if p.condition = .inService then .outOfService else p.condition,
        reason := if p.condition = .inService then some r else some (settleReason r p.reason) } := by
  unfold Supervisor.fault
  cases hp : p.condition with
  | disabled => exact absurd hp h
  | inService => rfl
  | outOfService => rfl
  | absent => rfl

/-! ### The verdict of a grant (R66, R69) -/

/-- The verdict that the bolt's or the hatch's report makes of a grant. -/
def grantVerdict (c : Column) (g : GrantContext) : Verdict :=
  { column := c, code := if g.service then .serviceGrant else .grant,
    remaining := if g.service then none else g.remaining, redirect := none }

theorem sendGrantVerdict_eq {g : GrantContext} (h : s.access[c].context = some g) :
    sendGrantVerdict c s = handVerdict (grantVerdict c g) s := by
  simp only [sendGrantVerdict, h, grantVerdict, sendVerdict]
  cases g.service <;> rfl

theorem openUnderGrant_eq {g : GrantContext} (h : s.access[c].context = some g) :
    openUnderGrant c s =
      { s with
        access := s.access.set c
          { s.access[c] with
            state := .open, grantTimer := none, cancelMark := false,
            openTimer := some (s.now +
              (if g.service then s.profile.crewOpenLimit else s.profile.hatchOpenLimit) * 1000),
            context := some { g with hatchOpened := true, openStart := some s.now } } } := by
  simp only [openUnderGrant, State.modAccess, h]
  rfl

/-- Settles O39: the verdict handed on leaves everything but the reader line to the machine's change. -/
theorem grantReportedAndOpened : Obligations.GrantReportedAndOpened := by
  intro s c g hg verdict limit opened
  have hverdict : sendGrantVerdict c s = handVerdict verdict s := sendGrantVerdict_eq s c hg
  have hopened (t : State) (ht : t = handVerdict verdict s) :
      openUnderGrant c t = { t with access := s.access.set c opened } := by
    subst ht
    rw [openUnderGrant_eq (g := g) _ c (by simpa using hg)]
    simp [opened, limit]
  refine ⟨fun hstate hmark => ?_, fun hstate => ?_, fun hstate => ?_⟩
  · simp only [accessReleased, hstate, hmark, hverdict, State.modAccess, handVerdict_frame]
    rfl
  · simp only [accessOpened, hstate, hverdict, hopened]
  · simp only [accessOpened, hstate]
    exact openUnderGrant_eq s c hg

end

/-! ### The timers (R71, R72, R73, R79) -/

section
variable {s : State} {c : Column} {due : Nat}

/-- The grant lapses: it is cut at the moment the timer falls due, and the engine chooses. -/
theorem grantTimer_expires (hs : s.chosen) (htimer : s.access[c].grantTimer = some due)
    (hstate : s.access[c].state = .awaitOpen) :
    exec (.grantTimerExpiry c) s =
      .next (chooseNext (deliverLocked c (cutGrant c .lapsed (reach due s)))) := by
  rw [exec, execGrantTimerExpiry, event_chosen _ s hs]
  simp only [htimer, hstate, if_true]

theorem openTimer_expires (hs : s.chosen) (htimer : s.access[c].openTimer = some due)
    (hstate : s.access[c].state = .open) :
    exec (.openTimerExpiry c) s =
      .next (takeFault c .hatchFault ((reach due s).modAccess c Access.outrun)) := by
  rw [exec, execOpenTimerExpiry, event_chosen _ s hs]
  simp only [htimer, hstate, if_true]

/-- The rest ends; a latch that is not home is then asked to go there. -/
theorem latchRest_expires (hs : s.chosen) (htimer : s.access[c].rest = some due)
    (hstate : s.access[c].state = .locked) :
    exec (.latchRestExpiry c) s =
      .next (if s.sups[c].latch ≠ .home then
          homeRequest c ((reach due s).modAccess c fun a => { a with rest := none })
        else (reach due s).modAccess c fun a => { a with rest := none }) := by
  rw [exec, execLatchRestExpiry, event_chosen _ s hs]
  simp only [htimer]
  have hlocked : s.access[c.val].state = .locked := hstate
  simp [hlocked]

end

/-- Settles O41: each timer by its event; away from home the cut grant and the ended rest both start the
travel home at the moment the timer falls due. -/
theorem accessTimersExpire : Obligations.AccessTimersExpire := by
  intro s c hs
  refine ⟨fun due g htimer hstate hcontext haway => ?_, fun due htimer hstate henabled => ?_,
    fun due htimer hstate => ?_⟩
  · have hcut := cutGrant_away (reach due s) c (v := .lapsed) nofun nofun hcontext haway
    refine ⟨_, grantTimer_expires hs htimer hstate, ?_⟩
    rw [deliverLocked_notLocked _ c (by rw [hcut]; simp), hcut]
    simp [handVerdict_congr _ (State.reach_reader s due)]
  · rw [openTimer_expires hs htimer hstate, takeFault_enabled c .hatchFault .hatchFault _ (by exact henabled) rfl]
    simp only [raiseAlert, State.modSup, State.modAccess, State.reach_sups, fault_eq .hatchFault henabled]
    rfl
  · rw [latchRest_expires hs htimer hstate]
    by_cases hhome : s.sups[c].latch = .home
    · rw [if_neg (not_not_intro hhome), if_pos hhome]
      simp [State.modAccess, reach]
    · rw [if_pos hhome, if_neg hhome]
      cases hcontact : s.sups[c].homeAlone with
      | true => rw [homeRequest_home _ c (by exact hcontact)]; rfl
      | false => rw [homeRequest_away _ c (by exact hcontact)]; rfl

end Sys2Proof.Proofs.AccessMachines
end

section
/-! Proofs, OpeningsSettled: what the end of an opening records, counts and adds, at a closing and at the restart (R74, R75, R77, R79, R83). -/

namespace Sys2Proof.Proofs.AccessMachines

open Sys2Proof Sys2Proof.Machine

section
variable (s : State) (c : Column)

/-! ### The record appended (R135, R141) -/

theorem appendRecord_journal (flags : RecordFlags) (period : BitVec 16) (body : RecordBody) :
    (appendRecord c flags period body s).journal =
      s.journal.append (stampRecord c flags period body s)
        (decide (s.journal.held + 1 = 1792) && s.journal.highArmed) := by
  simp only [appendRecord]
  split
  · simp only [raiseAlert_frame]
  · rfl

/-! ### The deposit at the fill tracker (R101, R103) -/

theorem trackDeposit_fill :
    (trackDeposit c s).fills[c] =
      let estimate := min 200 (s.fills[c].estimate + s.profile.columns[c].increment)
      { s.fills[c] with
        estimate := estimate,
        since := min 255 (s.fills[c].since + 1),
        band := nextBand s.profile.nearFull s.profile.full s.fills[c].band estimate } := by
  simp only [trackDeposit]
  split <;> simp [recomputeBand]

/-! ### An opening under a grant settled (R74, R75, R83) -/

/-- The body of the record of a grant whose opening ends: a service opening with its duration, or an
insertion with the fill after the increment. -/
def settledBody (g : GrantContext) : RecordBody :=
  if g.service then .serviceOpen g.card (openDuration g s.now)
  else .insertion g.card g.cls g.tariff g.fraction
    (min 200 (s.fills[c].estimate + s.profile.columns[c].increment))

variable (g : GrantContext) (interrupted : Bool)

theorem settleOpened_service (h : g.service = true) :
    settleOpened c g interrupted true s = countUse g (appendServiceOpen c g interrupted s) := if_pos h

theorem settleOpened_deposit (h : g.service = false) :
    settleOpened c g interrupted true s =
      countInsertion c (countUse g (appendInsertion c g interrupted (trackDeposit c s))) :=
  if_neg (ne_true_of_eq_false h)

/-- The journal takes the one record of the grant, as it would from the state before the deposit. -/
theorem settleOpened_journal :
    (settleOpened c g interrupted true s).journal =
      (appendRecord c (grantFlags g interrupted) g.period (settledBody s c g) s).journal := by
  cases h : g.service with
  | true => simp [settleOpened_service s c g interrupted h, settledBody, h, appendServiceOpen]
  | false =>
    have fill : (trackDeposit c s).fills[c].estimate =
        min 200 (s.fills[c].estimate + s.profile.columns[c].increment) := by rw [trackDeposit_fill]
    simp only [settleOpened_deposit s c g interrupted h, settledBody, h, appendInsertion, fill,
      countInsertion_frame, countUse_frame, appendRecord_journal, stampRecord, trackDeposit_frame]
    rfl

theorem settleOpened_table :
    (settleOpened c g interrupted true s).table = s.table.useCount g.card := by
  cases h : g.service with
  | true => simp [settleOpened_service s c g interrupted h, countUse]
  | false => simp [settleOpened_deposit s c g interrupted h, countUse]

theorem settleOpened_access :
    (settleOpened c g interrupted true s).access =
      if g.service then s.access
      else s.access.set c { s.access[c] with insertions := s.access[c].insertions + 1 } := by
  cases h : g.service with
  | true => simp [settleOpened_service s c g interrupted h]
  | false => simp [settleOpened_deposit s c g interrupted h, countInsertion, State.modAccess]

theorem settleOpened_fills :
    (settleOpened c g interrupted true s).fills =
      if g.service then s.fills else (trackDeposit c s).fills := by
  cases h : g.service with
  | true => simp [settleOpened_service s c g interrupted h]
  | false => simp [settleOpened_deposit s c g interrupted h]

end

/-! ### The restart (R83) -/

/-- Settles O13: a grant not yet opened is undone, an opened one settled as at its closing. -/
theorem restartSettlesGrant : Obligations.RestartSettlesGrant := by
  intro s c g hg
  have settled (h : s.access[c].state = .open) : settleGrant s c = settleOpened c g true true s := by
    simp only [settleGrant, hg, h]
  refine ⟨fun h => ?_, fun h hdeposit => ?_, fun h hservice => ?_, fun h => ?_⟩
  · rw [← undoGrant_eq s c hg]
    rcases h with h | h <;> simp only [settleGrant, hg, h]
  · simp only [settled h, settleOpened_journal, settleOpened_table, settleOpened_access,
      settleOpened_fills, appendRecord_journal, Journal.append, settledBody, hdeposit,
      Bool.false_eq_true, if_false, true_and]
    refine ⟨?_, ?_, ?_⟩
    · simp [stampRecord, grantFlags, RecordFlags.none, hdeposit]
    · exact congrArg Fill.estimate (trackDeposit_fill s c)
    · simp
  · simp only [settled h, settleOpened_journal, settleOpened_table, settleOpened_access,
      settleOpened_fills, appendRecord_journal, Journal.append, settledBody, hservice,
      if_true, and_true]
    simp [stampRecord, grantFlags, RecordFlags.none, hservice, openDuration]
  · simp only [settleGrant, hg, h]

end Sys2Proof.Proofs.AccessMachines
end

section
/-! Proofs, HatchClosings: the LOCKED report behind a closing, and what a closing makes of an opening with a grant and of one without (R74, R75, R77, R79). -/

namespace Sys2Proof.Proofs.AccessMachines

open Sys2Proof Sys2Proof.Machine

section
variable (s : State) (c : Column)

/-! ### The LOCKED report (R119, R120) -/

theorem takeFault_keeps (r : Reason) :
    (takeFault c r s).sups[c].latch = s.sups[c].latch ∧
      (takeFault c r s).sups[c].hatchOpen = s.sups[c].hatchOpen := by
  unfold takeFault
  split
  · exact ⟨rfl, rfl⟩
  · simp [Supervisor.fault_frame]

/-- The round controller asserts a permit or has a fault taken: latch and filtered hatch stay. -/
theorem roundLocked_keeps :
    (roundLocked c s).sups[c].latch = s.sups[c].latch ∧
      (roundLocked c s).sups[c].hatchOpen = s.sups[c].hatchOpen := by
  unfold roundLocked
  split
  · split
    · simp
    · simpa using takeFault_keeps s c .latchFault
  · exact ⟨rfl, rfl⟩

theorem deliverLocked_keeps :
    (deliverLocked c s).sups[c].latch = s.sups[c].latch ∧
      (deliverLocked c s).sups[c].hatchOpen = s.sups[c].hatchOpen := by
  unfold deliverLocked
  split
  · exact roundLocked_keeps _ c
  · exact ⟨rfl, rfl⟩

/-- The report clears the drain mark of the machine, and changes nothing else of it. -/
theorem deliverLocked_machine :
    ∃ mark, (deliverLocked c s).access[c] = { s.access[c] with drainMark := mark } := by
  unfold deliverLocked
  split
  · exact ⟨false, by simp⟩
  · exact ⟨s.access[c].drainMark, rfl⟩

/-! ### Records stay (R135) -/

theorem appendRecord_records (flags : RecordFlags) (period : BitVec 16) (body : RecordBody) :
    (appendRecord c flags period body s).journal.records =
      s.journal.records ++ [stampRecord c flags period body s] := by
  rw [appendRecord_journal]
  rfl

theorem finishEntry_records (o : EntryOutcome) (f : Option FailReason) (after : Option Nat)
    (residue : Bool) :
    s.journal.records <+: (finishEntry c o f after residue s).journal.records := by
  unfold finishEntry
  split
  · exact List.prefix_rfl
  · simp only [appendRecord_records]
    exact List.prefix_append _ _

theorem roundLocked_records : s.journal.records <+: (roundLocked c s).journal.records := by
  unfold roundLocked
  split
  · split
    · simp
    · simpa [failEntry] using finishEntry_records (takeFault c .latchFault s) c .failed (some .latch) none false
  · exact List.prefix_rfl

theorem deliverLocked_records : s.journal.records <+: (deliverLocked c s).journal.records := by
  unfold deliverLocked
  split
  · exact roundLocked_records (s.modAccess c fun a => { a with drainMark := false }) c
  · exact List.prefix_rfl

/-! ### A closing taken (R3, R4) -/

/-- The engine's choice is a matter of the engine alone. -/
theorem chooseNext_eq : chooseNext s = { s with ranging := (chooseNext s).ranging } := by
  have frame := chooseNext_frame s
  generalize chooseNext s = t at frame
  cases t
  simp_all

theorem ready_eq : s.ready = { s with ranging := s.ready.ranging } := by
  unfold State.ready
  split
  · exact chooseNext_eq s
  · rfl

/-- The part once a closing of the hatch has been taken: the time base at the end of the hold, the hatch
shut. -/
def hatchShut : State :=
  { s with
    now := max s.now (s.sups[c].hatch.due s.now),
    sups := s.sups.set c { s.sups[c] with hatch := .steady true, hatchOpen := false },
    ranging := s.ready.ranging }

theorem hatchShut_sup : (hatchShut s c).sups[c] =
    { s.sups[c] with hatch := .steady true, hatchOpen := false } := by simp [hatchShut]

theorem hatchShut_other {k : Column} (h : k ≠ c) : (hatchShut s c).sups[k] = s.sups[k] :=
  State.modSup_other s c (fun p => { p with hatch := .steady true, hatchOpen := false }) h

/-- The end of a closing: the machine homes, its LOCKED report is delivered and the engine chooses. -/
def closingEnds : State := chooseNext (deliverLocked c (goHoming c s))

theorem closingEnds_frame :
    (closingEnds s c).now = s.now ∧ (closingEnds s c).table = s.table ∧
      (closingEnds s c).fills = s.fills ∧ (closingEnds s c).reader = s.reader ∧
      (closingEnds s c).host = s.host := by
  simp [closingEnds]

theorem closingEnds_records : s.journal.records <+: (closingEnds s c).journal.records := by
  simpa [closingEnds] using deliverLocked_records (goHoming c s) c

end

section
variable {s : State} {c : Column}

/-- The hatch of a column with its container seated is watched. -/
theorem hatchIgnored_seated {p : Supervisor} (hpresent : p.condition ≠ .absent)
    (hseated : p.lift.level = true) : p.hatchIgnored = false := by
  simp [Supervisor.hatchIgnored, Supervisor.liftOut, hpresent, hseated]

theorem takeHatch_shut (hpresent : s.sups[c].condition ≠ .absent)
    (hseated : s.sups[c].lift.level = true) : takeHatch c true s.ready = hatchShut s c := by
  have hwatched : ((takeInput c .hatch true s.ready).sups[c]).hatchIgnored = false := by
    simpa [takeInput] using hatchIgnored_seated (p := Supervisor.modFilter .hatch (Filter.take true) s.sups[c])
      hpresent hseated
  rw [takeHatch, if_neg (ne_true_of_eq_false hwatched), takeInput, modSup_modSup, ready_eq s]
  rfl

theorem hatchClosed_taken (hopen : s.sups[c].hatch.level = false)
    (hpresent : s.sups[c].condition ≠ .absent) (henabled : s.sups[c].condition ≠ .disabled)
    (hseated : s.sups[c].lift.level = true) :
    exec (.hatchClosed c) s = .next (chooseNext (reportClosed c (hatchShut s c))) := by
  have hlevel : s.ready.sups[c].hatch.level = false := by simpa using hopen
  have hreported : hatchReported c (hatchShut s c) = true := by
    have hwatched := hatchIgnored_seated hpresent hseated
    simp only [hatchReported, hatchShut_sup, Bool.and_eq_true, Bool.not_eq_true', decide_eq_true_eq]
    exact ⟨hwatched, henabled⟩
  simp only [exec, execHatchClosed, event, hlevel, takeHatch_shut hpresent hseated, hreported,
    Bool.false_eq_true, if_false, if_true]

variable (s c)

/-- However far the homing gets at once, it stops both timers and leaves the counters. -/
theorem goHoming_keeps :
    (goHoming c s).access[c].openTimer = none ∧
      (goHoming c s).access[c].insertions = s.access[c].insertions ∧
      (goHoming c s).access[c].denials = s.access[c].denials ∧
      (goHoming c s).sups[c].hatchOpen = s.sups[c].hatchOpen := by
  cases h : s.sups[c].homeAlone with
  | true => simp [goHoming_home s c h]
  | false => simp [goHoming_away s c h]

theorem closingEnds_keeps :
    (closingEnds s c).access[c].openTimer = none ∧
      (closingEnds s c).access[c].insertions = s.access[c].insertions ∧
      (closingEnds s c).access[c].denials = s.access[c].denials ∧
      (closingEnds s c).sups[c].hatchOpen = s.sups[c].hatchOpen := by
  obtain ⟨mark, hmachine⟩ := deliverLocked_machine (goHoming c s) c
  obtain ⟨htimer, hinsertions, hdenials, hhatch⟩ := goHoming_keeps s c
  have hshut := (deliverLocked_keeps (goHoming c s) c).2
  simp only [closingEnds, chooseNext_frame, hmachine]
  exact ⟨htimer, hinsertions, hdenials, hshut.trans hhatch⟩

/-- The homing drops a context or keeps it, and makes none. -/
theorem closingEnds_context (h : s.access[c].context = none) :
    (closingEnds s c).access[c].context = none := by
  obtain ⟨mark, hmachine⟩ := deliverLocked_machine (goHoming c s) c
  simp only [closingEnds, chooseNext_frame, hmachine]
  cases hhome : s.sups[c].homeAlone with
  | true => simp [goHoming_home s c hhome]
  | false => simpa [goHoming_away s c hhome] using h

theorem closingEnds_other {k : Column} (h : k ≠ c) :
    (closingEnds s c).sups[k] = s.sups[k] ∧ (closingEnds s c).access[k] = s.access[k] := by
  simp [closingEnds, deliverLocked_other, goHoming_other, h]

variable {s c}

theorem closingEnds_away (h : s.sups[c].homeAlone = false) :
    closingEnds s c = chooseNext (goHoming c s) := by
  rw [closingEnds, deliverLocked_notLocked]
  simp [goHoming_away s c h]

theorem closingEnds_unmarked (h : s.sups[c].homeAlone = true) (hmark : s.access[c].drainMark = false) :
    closingEnds s c = chooseNext (goHoming c s) := by
  rw [closingEnds, deliverLocked_unmarked]
  simpa [goHoming_home s c h] using hmark

theorem closingEnds_home (h : s.sups[c].homeAlone = true) :
    (closingEnds s c).access[c].state = .locked ∧ (closingEnds s c).access[c].context = none ∧
      (closingEnds s c).sups[c].latch = .home := by
  obtain ⟨mark, hmachine⟩ := deliverLocked_machine (goHoming c s) c
  have hlatch := (deliverLocked_keeps (goHoming c s) c).1
  simp only [closingEnds, chooseNext_frame, hmachine, hlatch]
  simp [goHoming_home s c h]

/-! ### A closing under a grant (R74, R75) -/

variable (s c) (g : GrantContext)

/-- The part once the closing has been taken and the opening of the grant settled. -/
def grantSettled : State := settleOpened c g false true (hatchShut s c)

theorem grantSettled_frame :
    (grantSettled s c g).now = (hatchShut s c).now ∧ (grantSettled s c g).sups = (hatchShut s c).sups ∧
      (grantSettled s c g).profile = s.profile ∧ (grantSettled s c g).reader = s.reader ∧
      (grantSettled s c g).table = s.table.useCount g.card := by
  refine ⟨?_, ?_, ?_, ?_, settleOpened_table _ c g false⟩ <;>
    simp only [grantSettled, settleOpened_frame, hatchShut]

theorem grantSettled_journal :
    (grantSettled s c g).journal =
      (appendRecord c (grantFlags g false) g.period (settledBody (hatchShut s c) c g) s).journal := by
  rw [grantSettled, settleOpened_journal, appendRecord_journal, appendRecord_journal]
  rfl

theorem grantSettled_denials : (grantSettled s c g).access[c].denials = s.access[c].denials := by
  simp only [grantSettled, settleOpened_access, hatchShut]
  split <;> simp

variable {g}

theorem grantSettled_service (h : g.service = true) :
    (grantSettled s c g).fills = s.fills ∧ (grantSettled s c g).access = s.access := by
  simp [grantSettled, settleOpened_fills, settleOpened_access, h, hatchShut]

theorem grantSettled_deposit (h : g.service = false) :
    (grantSettled s c g).fills[c] = (trackDeposit c (hatchShut s c)).fills[c] ∧
      (grantSettled s c g).access[c].insertions = s.access[c].insertions + 1 := by
  simp [grantSettled, settleOpened_fills, settleOpened_access, h, hatchShut]

variable {s c}

theorem hatchClosed_granted (hopen : s.sups[c].hatch.level = false)
    (hpresent : s.sups[c].condition ≠ .absent) (henabled : s.sups[c].condition ≠ .disabled)
    (hseated : s.sups[c].lift.level = true) (hstate : s.access[c].state = .open)
    (hcontext : s.access[c].context = some g) :
    exec (.hatchClosed c) s = .next (closingEnds (grantSettled s c g) c) := by
  rw [hatchClosed_taken hopen hpresent henabled hseated, reportClosed, accessClosed]
  simp only [hatchShut, hstate, hcontext]
  rfl

/-- A closing without a grant has nothing to settle. -/
theorem hatchClosed_ungranted (hopen : s.sups[c].hatch.level = false)
    (hpresent : s.sups[c].condition ≠ .absent) (henabled : s.sups[c].condition ≠ .disabled)
    (hseated : s.sups[c].lift.level = true) (hstate : s.access[c].state = .open)
    (hcontext : s.access[c].context = none) :
    exec (.hatchClosed c) s = .next (closingEnds (hatchShut s c) c) := by
  rw [hatchClosed_taken hopen hpresent henabled hseated, reportClosed, accessClosed]
  simp only [hatchShut, hstate, hcontext]
  rfl

/-- The end of a hold, written out. -/
theorem holdEnd_eq (s : State) (f : Filter) :
    max s.now (f.due s.now) = (match f.hold with
      | none => s.now
      | some t => max s.now (t + 20)) := by
  cases h : f.hold <;> simp [Filter.due, h]

end

/-- Settles O40: the closing settles the opening of a grant, and either way it ends in the homing. -/
theorem hatchClosedCompletesGrant : Obligations.HatchClosedCompletesGrant := by
  refine ⟨?_, ?_⟩
  · intro s c g hopen hseated hpresent henabled hstate hcontext now est record
    have hnow : (hatchShut s c).now = now := holdEnd_eq s _
    have hbody : settledBody (hatchShut s c) c g = record.body := by
      simp only [settledBody, openDuration, hnow]
      rfl
    obtain ⟨hwnow, hwsups, hwprofile, hwreader, hwtable⟩ := grantSettled_frame s c g
    have hjournal : (grantSettled s c g).journal = (appendRecord c
        { record.flags with timeUnset := false } g.period record.body s).journal := by
      rw [grantSettled_journal, hbody]
      rfl
    have hrecords : (grantSettled s c g).journal.records = s.journal.records ++ [record] := by
      rw [hjournal, appendRecord_records]
      rfl
    have hsup : (grantSettled s c g).sups[c] =
        { s.sups[c] with hatch := .steady true, hatchOpen := false } := by rw [hwsups, hatchShut_sup]
    obtain ⟨htimer, hinsertions, hdenials, hhatch⟩ := closingEnds_keeps (grantSettled s c g) c
    obtain ⟨ht, htable, hfills, hreader, hhost⟩ := closingEnds_frame (grantSettled s c g) c
    refine ⟨_, hatchClosed_granted hopen hpresent henabled hseated hstate hcontext,
      ht.trans (hwnow.trans hnow), by rw [hhatch, hsup], hrecords ▸ closingEnds_records _ c,
      htable.trans hwtable, hreader.trans hwreader, fun hservice => ?_, fun hdeposit => ?_, htimer,
      hdenials.trans (grantSettled_denials s c g), fun haway => ?_, fun hhome => ?_⟩
    · obtain ⟨hwfills, hwaccess⟩ := grantSettled_service s c hservice
      exact ⟨hfills.trans hwfills, by rw [hinsertions, hwaccess]⟩
    · obtain ⟨hwfill, hwinsertions⟩ := grantSettled_deposit s c hdeposit
      rw [hfills, hwfill, trackDeposit_fill]
      exact ⟨rfl, rfl, rfl, hinsertions.trans hwinsertions⟩
    · have hwaway : (grantSettled s c g).sups[c].homeAlone = false := by rw [hsup]; exact haway
      simp only [closingEnds_away hwaway, goHoming_away _ c hwaway, chooseNext_frame]
      simp [hjournal, hwnow, hnow, hwprofile]
    · exact closingEnds_home (by rw [hsup]; exact hhome)
  · intro s c hopen hseated hpresent henabled hstate hcontext p a now shut
    have hnow : (hatchShut s c).now = now := holdEnd_eq s _
    have hsup : (hatchShut s c).sups[c] = shut := hatchShut_sup s c
    obtain ⟨htimer, hinsertions, hdenials, _⟩ := closingEnds_keeps (hatchShut s c) c
    obtain ⟨ht, htable, hfills, hreader, hhost⟩ := closingEnds_frame (hatchShut s c) c
    refine ⟨_, hatchClosed_ungranted hopen hpresent henabled hseated hstate hcontext,
      ht.trans hnow, closingEnds_records (hatchShut s c) c, htable, hfills, hreader, hhost,
      closingEnds_context _ c hcontext, htimer, hinsertions, hdenials, fun k hk => ?_, fun haway => ?_, fun hhome hmark => ?_⟩
    · obtain ⟨hsups, haccess⟩ := closingEnds_other (hatchShut s c) c hk
      exact ⟨hsups.trans (hatchShut_other s c hk), haccess⟩
    · have hwaway : (hatchShut s c).sups[c].homeAlone = false := by rw [hsup]; exact haway
      simp only [closingEnds_away hwaway, goHoming_away _ c hwaway, chooseNext_frame, hsup, hnow]
      simp [hatchShut, shut, p, a]
    · have hwhome : (hatchShut s c).sups[c].homeAlone = true := by rw [hsup]; exact hhome
      simp only [closingEnds_unmarked hwhome hmark, goHoming_home _ c hwhome, chooseNext_frame, hsup]
      have hnone : s.access[c.val].context = none := hcontext
      simp [hatchShut, shut, p, a, hnone]

end Sys2Proof.Proofs.AccessMachines
end

section
/-! Proofs, BurstsPutBack: a burst abandoned puts its column back into the forced queue, from which the free engine takes the first eligible column (R89, R91). -/

namespace Sys2Proof.Proofs.AccessMachines

open Sys2Proof Sys2Proof.Machine

section
variable {s t : State} {c : Column}

/-- The forced queue after a burst on the column has been abandoned (R89). -/
def queueBack (c : Column) (b : Burst) (queue : List Column) : List Column :=
  if b.purpose = .emptying then c :: queue.erase c
  else if c ∈ queue then queue
  else queue ++ [c]

/-! ### The abandonment -/

theorem advancePointer_keeps (s : State) :
    (advancePointer s).ranging.queue = s.ranging.queue ∧
      (advancePointer s).ranging.burst = s.ranging.burst := by
  unfold advancePointer
  split <;> exact ⟨rfl, rfl⟩

theorem endBurst_queue (s : State) : (endBurst s).ranging.queue = s.ranging.queue := by
  unfold endBurst
  split
  · rfl
  · split
    · exact (advancePointer_keeps _).1
    · rfl

/-- The engine is free after the abandonment, with the column back in the queue. -/
theorem abandonBurst_frees {b : Burst} (hb : s.ranging.burst = some b) (hc : b.column = c) :
    (abandonBurst c s).ranging.burst = none ∧
      (abandonBurst c s).ranging.queue = queueBack c b s.ranging.queue := by
  simp only [abandonBurst, hb, if_pos hc, queueBack]
  split
  · simp [frontRequest, Ranging.front, endBurst_burst, endBurst_queue]
  · simp only [enqueue, Ranging.enqueue, List.contains_iff_mem, endBurst_queue]
    split <;> simp [endBurst_burst, endBurst_queue]

/-! ### The choice of the free engine -/

/-- The scan leaves the forced queue, and a burst that it begins is its own. -/
theorem scanWalk_scans (n : Nat) (s : State) (h : s.ranging.burst = none) :
    (scanWalk n s).ranging.queue = s.ranging.queue ∧
      ∀ d, (scanWalk n s).ranging.burst = some d → d.purpose = .scan := by
  induction n generalizing s with
  | zero => exact ⟨rfl, by simp [scanWalk, h]⟩
  | succ n ih =>
    simp only [scanWalk]
    split
    · exact ⟨rfl, by rintro d ⟨⟩; rfl⟩
    · have walkOn (u : State) (hburst : u.ranging.burst = none)
          (hqueue : u.ranging.queue = s.ranging.queue) :
          let v := advancePointer u
          let w := if v.ranging.pause.isSome then v else scanWalk n v
          w.ranging.queue = s.ranging.queue ∧
            ∀ d, w.ranging.burst = some d → d.purpose = .scan := by
        obtain ⟨hqueue', hburst'⟩ := advancePointer_keeps u
        rw [hqueue] at hqueue'
        rw [hburst] at hburst'
        dsimp only
        split
        · exact ⟨hqueue', by simp [hburst']⟩
        · exact hqueue' ▸ ih _ hburst'
      split
      · exact walkOn (lowerSkip s.ranging.pointer s) h rfl
      · exact walkOn s h rfl

/-- With no column of the queue eligible the queue stays, and a burst begun is a scan's. -/
theorem chooseNext_unforced (h : s.ranging.burst = none)
    (hq : ∀ k ∈ s.ranging.queue, eligible s k = false) :
    (chooseNext s).ranging.queue = s.ranging.queue ∧
      ∀ d, (chooseNext s).ranging.burst = some d → d.purpose = .scan := by
  cases hp : s.ranging.pause with
  | none => rw [chooseNext_scan s h hp hq]; exact scanWalk_scans 12 s h
  | some due =>
    have hfind : s.ranging.queue.find? (eligible s) = none :=
      List.find?_eq_none.mpr fun k hk => by simp [hq k hk]
    simp [chooseNext, h, hfind, hp]

/-- The first eligible column of the queue is taken from it and measured. -/
theorem chooseNext_forced {before after : List Column} {k : Column} (h : s.ranging.burst = none)
    (hq : s.ranging.queue = before ++ k :: after) (hbefore : ∀ j ∈ before, eligible s j = false)
    (hk : eligible s k = true) :
    (chooseNext s).ranging.queue = before ++ after ∧
      ∃ d, (chooseNext s).ranging.burst = some d ∧ d.column = k := by
  have hfind : s.ranging.queue.find? (eligible s) = some k := by
    rw [hq, List.find?_append, List.find?_eq_none.mpr fun j hj => by simp [hbefore j hj]]
    simp [hk]
  have hfirst : k ∉ before := fun hmem => by simp [hbefore k hmem] at hk
  have herase : s.ranging.queue.erase k = before ++ after := by
    rw [hq, List.erase_append_right _ hfirst, List.erase_cons_head]
  simp only [chooseNext, h, hfind, Option.isSome_none, Bool.false_eq_true, if_false]
  exact ⟨herase, _, rfl, rfl⟩

/-- An event that abandons the column's burst, and then lets the engine choose, puts the burst back. -/
theorem putBack_chooseNext
    (h : ∀ b, s.ranging.burst = some b → b.column = c →
      t.ranging.burst = none ∧ t.ranging.queue = queueBack c b s.ranging.queue) :
    PutBack c s (chooseNext t) := by
  intro b hb hc
  obtain ⟨hfree, hqueue⟩ := h b hb hc
  have heligible : eligible (chooseNext t) = eligible t :=
    eligible_congr t (chooseNext t) (by simp) (by simp) (by simp)
  rw [heligible]
  intro back
  have hback : t.ranging.queue = back := hqueue
  rw [← hback]
  exact ⟨chooseNext_unforced hfree, fun _ _ _ hback => chooseNext_forced hfree hback⟩

end
end Sys2Proof.Proofs.AccessMachines
end

section
/-! Proofs, GrantsMade: a PRESENT that passes every check, the grant made of it, and the release of its latch or the release's refusal (R5, R58, R64, R70, R71). -/

namespace Sys2Proof.Proofs.AccessMachines

open Sys2Proof Sys2Proof.Machine Sys2Proof.Proofs.CardTables

section
variable {s : State} {c : Column} {card : CardNumber} {f : Found}

/-! ### Every check passed (R60 to R63) -/

theorem admitsCrew_condition {p : Supervisor} (h : p.admitsCrew = true) :
    p.condition = .inService ∨ p.condition = .outOfService :=
  ((admitsCrew_iff p).mp h).imp_right And.left

theorem decideCrew_grants (hadmits : s.sups[c].admitsCrew = true)
    (hroom : s.journal.records.length + s.journal.reservations < 2036) :
    decideCrew s c f = .grant f := by
  rw [decideCrew, hadmits]
  exact if_neg (Nat.not_le.mpr hroom)

theorem decideResident_grants (hservice : s.sups[c].condition = .inService)
    (hfraction : f.host.fractions.getLsbD s.profile.columns[c].fraction.val = true)
    (hadmits : f.host.admitsColumn c = true) (hquiet : quiet s c = false)
    (hband : s.fills[c].band ≠ .full) (heffective : f.effective ≠ 0)
    (hroom : s.journal.records.length + s.journal.reservations < 2016) :
    decideResident s c f = .grant f := by
  have hceiling : ¬residentCeiling ≤ s.journal.sum := Nat.not_le.mpr hroom
  simp only [decideResident, if_neg (not_not_intro hservice), hfraction, hadmits, hquiet, if_neg hband,
    if_neg heffective, if_neg hceiling, Bool.not_true, Bool.false_eq_true, if_false]

theorem decidePresent_grants (hstate : s.access[c].state = .locked)
    (hclaim : s.round.claims c = false) (hfound : lookupPresent card s = some f)
    (hblocked : f.host.blocked = false)
    (hcrew : f.host.cls = .crew → s.sups[c].admitsCrew = true ∧
      s.journal.records.length + s.journal.reservations < 2036)
    (hresident : f.host.cls ≠ .crew → s.sups[c].condition = .inService ∧
      f.host.fractions.getLsbD s.profile.columns[c].fraction.val = true ∧
      f.host.admitsColumn c = true ∧ quiet s c = false ∧ s.fills[c].band ≠ .full ∧
      f.effective ≠ 0 ∧ s.journal.records.length + s.journal.reservations < 2016) :
    decidePresent s c card = .grant f := by
  by_cases hcls : f.host.cls = .crew
  · obtain ⟨hadmits, hroom⟩ := hcrew hcls
    have henabled : s.sups[c].condition ≠ .disabled := by
      rcases admitsCrew_condition hadmits with h | h <;> simp only [h, ne_eq, reduceCtorEq, not_false_eq_true]
    rw [decide_crew henabled hstate hclaim hfound hblocked hcls, decideCrew_grants hadmits hroom]
  · obtain ⟨hservice, hfraction, hadmits, hquiet, hband, heffective, hroom⟩ := hresident hcls
    rw [decide_resident (by rw [hservice]; decide) hstate hclaim hfound hblocked hcls,
      decideResident_grants hservice hfraction hadmits hquiet hband heffective hroom]

/-- A PRESENT granted: the waiting verdict begins, the grant is made, the engine chooses. -/
theorem present_granted (hq : s.reader.sending = none) (hr : s.restarting = false)
    (h : decidePresent s.ready c card = .grant f) :
    exec (.present c card) s =
      .next (chooseNext (makeGrant c card f (readerFrameEnds s.ready))) := by
  have hdecide : decidePresent (readerFrameEnds s.ready) c card = .grant f := by
    rw [readerFrameEnds_eq, decidePresent_reader, h]
  have hreceived : s.ready.reader.sending.isSome = false := by simp [hq]
  have hrunning : s.ready.restarting = false := by rw [ready_eq s]; exact hr
  simp only [exec, execPresent, event, hreceived, hrunning, takePresent, hdecide,
    Bool.false_eq_true, if_false]

/-! ### The grant before its release (R58, R64) -/

variable (c card f) in
/-- The charge of a grant; a crew card is not charged. -/
def grantCharge (s : State) : CardTable × Option Nat :=
  if f.host.cls = .crew then (s.table, none) else s.table.charge card s.period

variable (c card f) in
/-- The part with the grant charged and reserved, its context set and the machine in RELEASING. -/
def grantHeld (s : State) : State :=
  let charged := reserve 1 { s with table := (grantCharge card f s).1 }
  leaveLocked c .releasing (charged.modAccess c fun a =>
    { a with context := some (newContext c card f (grantCharge card f s).2 charged) })

theorem makeGrant_eq (s : State) :
    makeGrant c card f s =
      if releaseStarts c (grantHeld c card f s) then releaseRequest c (grantHeld c card f s)
      else releaseFailed c (releaseRequest c (grantHeld c card f s)) := rfl

theorem abandonBurst_eq (c : Column) (s : State) :
    abandonBurst c s = { s with ranging := (abandonBurst c s).ranging } := by
  have frame := abandonBurst_frame s c
  generalize abandonBurst c s = t at frame
  cases t
  simp_all

theorem grantHeld_eq (s : State) :
    grantHeld c card f s =
      { s with
        table := (grantCharge card f s).1,
        journal := { s.journal with reservations := s.journal.reservations + 1 },
        access := s.access.set c
          { s.access[c] with
            state := .releasing, rest := none,
            context := some (newContext c card f (grantCharge card f s).2 s) },
        ranging := (grantHeld c card f s).ranging } := by
  unfold grantHeld leaveLocked
  rw [abandonBurst_eq, modAccess_modAccess]
  rfl

/-- The engine has abandoned a burst on the column. -/
theorem grantHeld_frees {b : Burst} (hb : s.ranging.burst = some b) (hc : b.column = c) :
    (grantHeld c card f s).ranging.burst = none ∧
      (grantHeld c card f s).ranging.queue = queueBack c b s.ranging.queue := by
  unfold grantHeld leaveLocked
  exact abandonBurst_frees hb hc

/-! ### The release, or its refusal (R5, R70, R71) -/

theorem failLatch_eq (s : State) (h : s.sups[c].condition ≠ .disabled) :
    failLatch c s =
      { s with
        sups := s.sups.set c
          { s.sups[c] with
            drive := .off, travel := none,
            condition := if s.sups[c].condition = .inService then .outOfService else s.sups[c].condition,
            reason :=
              if s.sups[c].condition = .inService then some .latchFault
              else some (settleReason .latchFault s.sups[c].reason) },
        alerts := s.alerts.raise .latchFault (some c) s.clock.reading } := by
  rw [failLatch, takeFault_enabled c .latchFault .latchFault _ (by simpa [Supervisor.stopDrive] using h) rfl,
    modSup_modSup, raiseAlert]
  simp only [State.modSup, Function.comp, fault_eq .latchFault (p := s.sups[c].stopDrive) h]
  rfl

theorem releaseFailed_eq {g : GrantContext} (s : State) (h : s.access[c].context = some g) :
    releaseFailed c s =
      { s with
        reader := (handVerdict ⟨c, .fault, none, none⟩ s).reader,
        table := if g.service then s.table else s.table.refund g.card g.period s.period,
        journal := { s.journal with reservations := s.journal.reservations - 1 },
        access := s.access.set c
          { s.access[c] with
            state := .locked, context := none, cancelMark := false, rest := some (s.now + 5000),
            denials := min 65535 (s.access[c].denials + 1) } } := by
  rw [releaseFailed, sendDenial_eq (v := .fault) s c nofun nofun, undoGrant_eq (g := g) _ c (by simpa using h),
    arriveLocked, modAccess_modAccess]
  simp [State.modAccess, restTime]

/-- Over a latch at home the grant is held and its travel begins. -/
theorem makeGrant_home (h : s.sups[c].latch = .home) :
    makeGrant c card f s =
      { grantHeld c card f s with
        sups := s.sups.set c
          { s.sups[c] with
            latch := .releasing, drive := .towardReleased,
            travel := some (s.now + s.profile.travelLimit) } } := by
  have hstarts : releaseStarts c (grantHeld c card f s) = true := by
    rw [grantHeld_eq]
    exact decide_eq_true h
  rw [makeGrant_eq, if_pos hstarts, releaseRequest, if_pos hstarts, grantHeld_eq]
  rfl

/-- Over any other latch the release fails at once, and the grant is undone. -/
theorem makeGrant_refused (h : s.sups[c].latch ≠ .home) (henabled : s.sups[c].condition ≠ .disabled) :
    makeGrant c card f s =
      { s with
        table := if f.host.cls = .crew then s.table
          else (s.table.charge card s.period).1.refund card s.period s.period,
        reader := (handVerdict ⟨c, .fault, none, none⟩ s).reader,
        ranging := (grantHeld c card f s).ranging,
        access := s.access.set c
          { s.access[c] with
            state := .locked, context := none, cancelMark := false, rest := some (s.now + 5000),
            denials := min 65535 (s.access[c].denials + 1) },
        sups := s.sups.set c
          { s.sups[c] with
            drive := .off, travel := none,
            condition := if s.sups[c].condition = .inService then .outOfService else s.sups[c].condition,
            reason :=
              if s.sups[c].condition = .inService then some .latchFault
              else some (settleReason .latchFault s.sups[c].reason) },
        alerts := s.alerts.raise .latchFault (some c) s.clock.reading } := by
  have hrefused : ¬releaseStarts c (grantHeld c card f s) = true := by
    rw [grantHeld_eq]
    exact fun hs => h (of_decide_eq_true hs)
  rw [makeGrant_eq, if_neg hrefused, releaseRequest, if_neg hrefused, grantHeld_eq,
    failLatch_eq _ (by exact henabled), releaseFailed_eq (g := newContext c card f (grantCharge card f s).2 s) _ (by simp)]
  rw [handVerdict_congr (s := s) _ (by rfl)]
  by_cases hcls : f.host.cls = .crew
  · simp [grantCharge, newContext, hcls]
  · simp [grantCharge, newContext, hcls]

/-! ### The PRESENT as one event -/

variable (s) in
/-- The part once a PRESENT is complete: the choice due made, the waiting verdict begun (R167; log 7, 11). -/
def presentHeard : State :=
  { s with ranging := s.ready.ranging, reader := (readerFrameEnds s).reader }

theorem presentHeard_eq : readerFrameEnds s.ready = presentHeard s := by
  rw [readerFrameEnds_eq, readerFrameEnds_congr (s := s) (by simp), ready_eq]
  rfl

/-- Whatever becomes of the release, a burst on the column is put back. -/
theorem grant_putsBack (h : (makeGrant c card f (presentHeard s)).ranging =
      (grantHeld c card f (presentHeard s)).ranging) :
    PutBack c s (chooseNext (makeGrant c card f (presentHeard s))) := by
  refine putBack_chooseNext fun b hb hc => ?_
  have hready : (presentHeard s).ranging = s.ranging := by
    rw [presentHeard, ready_chosen s (.inl (by simp [hb]))]
  rw [h, ← hready]
  exact grantHeld_frees (by rw [hready, hb]) hc

end

/-- Settles O38: every check passed, the grant is made; the latch decides between its release and the
refusal that undoes it. -/
theorem presentGranted : Obligations.PresentGranted := by
  intro s c card f hq hr hstate hclaim hfound hblocked hcrew hresident
  have hexec : exec (.present c card) s =
      .next (chooseNext (makeGrant c card f (presentHeard s))) := by
    rw [← presentHeard_eq]
    refine present_granted hq hr ?_
    rw [ready_eq s]
    exact decidePresent_grants hstate hclaim hfound hblocked hcrew hresident
  have hcondition : s.sups[c.val].condition = .inService ∨ s.sups[c.val].condition = .outOfService := by
    by_cases hcls : f.host.cls = .crew
    · exact admitsCrew_condition (hcrew hcls).1
    · exact .inl (hresident hcls).1
  refine ⟨fun hhome => ⟨_, hexec, ?_⟩, fun haway => ⟨_, hexec, ?_⟩⟩
  · have hmade : makeGrant c card f (presentHeard s) = _ := makeGrant_home hhome
    have hback : PutBack c s (chooseNext (makeGrant c card f (presentHeard s))) :=
      grant_putsBack (by rw [hmade])
    refine ⟨?_, ?_, ?_, ?_, hback, ?_⟩ <;> simp only [chooseNext_frame] <;> rw [hmade, grantHeld_eq]
    · exact apply_ite Prod.fst ..
    · rfl
    · simp only [newContext, grantCharge, apply_ite Prod.snd]
      rfl
    · rfl
    · exact ⟨rfl, rfl, rfl, rfl, rfl⟩
  · have henabled : (presentHeard s).sups[c].condition ≠ .disabled := fun h => by
      rcases hcondition with h' | h' <;> exact nomatch h'.symm.trans h
    have hmade : makeGrant c card f (presentHeard s) = _ := makeGrant_refused haway henabled
    have hback : PutBack c s (chooseNext (makeGrant c card f (presentHeard s))) :=
      grant_putsBack (by rw [hmade])
    refine ⟨?_, ?_, ?_, ?_, ?_, ?_, ?_, hback, ?_⟩ <;> simp only [chooseNext_frame] <;> rw [hmade]
    · rfl
    · rfl
    · rfl
    · rcases hcondition with h | h <;> simp [presentHeard, h]
    · exact handVerdict_congr _ rfl
    · rfl
    · rfl
    · exact ⟨rfl, rfl⟩

end Sys2Proof.Proofs.AccessMachines
end

section
/-! Proofs, LineCommands: the marks, discards and gaps of the two receivers, the end of a reply and of a verdict, and what goes out on the lines (R66, R159 to R162, R167, R175). -/

namespace Sys2Proof.Proofs.Lines

open Sys2Proof Sys2Proof.Machine

/-! ### The reader line's turn (R161, R167) -/

/-- A free reader line once its oldest waiting verdict, if there is one, has begun. -/
def nextBegun (r : ReaderLine) : ReaderLine :=
  match r.waiting with
  | [] => r
  | v :: vs => { r with waiting := vs, sending := some v }

section
variable {s : State}

theorem startVerdict_free (hf : s.reader.frame = none) (hq : s.reader.sending = none) :
    startVerdict s = { s with reader := nextBegun s.reader } := by
  simp only [startVerdict, hf, hq, nextBegun]
  cases s.reader.waiting <;> rfl

theorem startVerdict_busy (h : s.reader.frame.isSome = true ∨ s.reader.sending.isSome = true) :
    startVerdict s = s := if_pos (by simpa using h)

theorem readerFrameEnds_quiet (hq : s.reader.sending = none) :
    readerFrameEnds s = { s with reader := nextBegun { s.reader with frame := none } } :=
  startVerdict_free (s := { s with reader := { s.reader with frame := none } }) rfl hq

theorem handVerdict_busy (v : Verdict)
    (h : s.reader.frame.isSome = true ∨ s.reader.sending.isSome = true) :
    handVerdict v s =
      if s.reader.waiting.length < 16 then
        { s with reader := { s.reader with waiting := s.reader.waiting ++ [v] } }
      else s := by
  unfold handVerdict
  split
  · exact startVerdict_busy h
  · exact startVerdict_busy h

theorem handVerdict_free (v : Verdict) (hf : s.reader.frame = none) (hq : s.reader.sending = none)
    (hw : s.reader.waiting = []) :
    handVerdict v s = { s with reader := { s.reader with sending := some v } } := by
  rw [handVerdict, if_pos (by simp [hw]), startVerdict_free (by exact hf) (by exact hq)]
  simp [nextBegun, hw]

end

/-! ### The commands of the lines (R161, R162, R166, R167) -/

section
variable {s : State} (hs : s.chosen)
include hs

theorem startMark_host :
    exec (.startMark .host) s =
      .next { s with host := { s.host with frame := beginFrame s.now s.host.frame } } := by
  rw [exec, execStartMark, event_chosen _ s hs]

theorem startMark_reader :
    exec (.startMark .reader) s = .next
      (if s.reader.sending.isSome then s
       else { s with reader := { s.reader with frame := beginFrame s.now s.reader.frame } }) := by
  rw [exec, execStartMark, event_chosen _ s hs]

theorem frameDiscard_discards (line : Line) (cause : DiscardCause) :
    exec (.frameDiscard line cause) s = .next (discardFrame line s) := by
  rw [exec, execFrameDiscard, event_chosen _ s hs]

theorem interbyteGap_hunting {line : Line} (h : s.reception line = none) :
    exec (.interbyteGap line) s = .next s := by
  rw [exec, execInterbyteGap, event_chosen _ s hs]
  simp only [h]

theorem interbyteGap_discards {line : Line} {r : Reception} (h : s.reception line = some r) :
    exec (.interbyteGap line) s = .next (discardFrame line (reach r.gap s)) := by
  rw [exec, execInterbyteGap, event_chosen _ s hs]
  simp only [h]

theorem replySent_frees {h : InHand} (hi : s.host.inHand = some h) :
    exec .replySent s = .next { s with host := { s.host with inHand := replyGone h } } := by
  rw [exec, execReplySent, event_chosen _ s hs, hi]
  rfl

theorem verdictSent_next {v : Verdict} (hv : s.reader.sending = some v) (hf : s.reader.frame = none) :
    exec .verdictSent s =
      .next { s with reader := nextBegun { s.reader with sending := none } } := by
  rw [exec, execVerdictSent, event_chosen _ s hs, if_pos (by simp [hv]),
    startVerdict_free (by exact hf) (by rfl)]

theorem readerFrameRejected_ends (cause : RejectCause) (hq : s.reader.sending = none) :
    exec (.readerFrameRejected cause) s =
      .next { s with reader := nextBegun { s.reader with frame := none } } := by
  rw [exec, execReaderFrameRejected, event_chosen _ s hs, if_neg (by simp [hq]),
    readerFrameEnds_quiet hq]

end

theorem beginFrame_eq (now : Nat) (frame : Option Reception) :
    beginFrame now frame = if frame.isSome then frame else some { bytes := [], last := now } := by
  cases frame <;> rfl

theorem discardFrame_reader {s : State} (h : s.reader.frame.isSome = true)
    (hq : s.reader.sending = none) :
    discardFrame .reader s = { s with reader := nextBegun { s.reader with frame := none } } := by
  rw [discardFrame, if_pos h, readerFrameEnds_quiet hq]

/-! ### What goes out (R66, R160, R162, R167, R175) -/

/-- The bytes of a frame with its check sum to 0, whatever check completes it (R160). -/
theorem check_iff (kind check : Byte) (body : List Byte) :
    byte (body.length + 1) + kind + body.foldl (· + ·) 0 + check = 0 ↔
      check = frameCheck kind body := by
  unfold frameCheck
  generalize byte (body.length + 1) + kind + body.foldl (· + ·) 0 = sum
  constructor
  · intro h; bv_omega
  · rintro rfl; bv_omega

/-- A frame going out has its length, its kind, its body, a check and the end mark. -/
theorem frame_checked (start kind : Byte) (body : List Byte) :
    ∃ check : Byte,
      some (frame start kind body) =
        some ([start, byte (body.length + 1), kind] ++ body ++ [check, 0x0D]) ∧
      byte (body.length + 1) + kind + body.foldl (· + ·) 0 + check = 0 :=
  ⟨frameCheck kind body, rfl, (check_iff kind _ body).mpr rfl⟩

section
variable {s : State}

theorem htx_none (h : s.host.inHand = none ∨ ∃ i, s.host.inHand = some i ∧ i.sent = true) :
    s.htx = none := by
  rcases h with h | ⟨i, h, hsent⟩
  · simp [State.htx, h]
  · simp [State.htx, h, hsent]

theorem htx_reply {h : InHand} (hi : s.host.inHand = some h) (hsent : h.sent = false) :
    s.htx = some (frame 0xA2 h.reply.kind h.reply.body) := by
  simp [State.htx, hi, hsent, Reply.frame]

end

end Sys2Proof.Proofs.Lines
end

section
/-! Proofs, FramesHeard: the command that the bytes of a frame spell, and what a receiver makes of bytes that are no frame (R159 to R163, R166). -/

namespace Sys2Proof.Proofs.Lines

open Sys2Proof Sys2Proof.Machine

/-! ### Bytes that are no frame (R159, R161) -/

section
variable (line : Line) (rest : List Heard)

theorem hearAll_hunting {b : Byte} (h : b ≠ startMarkOf line) :
    hearAll line none (.byte b :: rest) = hearAll line none rest := by
  simp only [hearAll, hear, if_neg h, Option.toList_none, List.nil_append]

theorem hearAll_disturbed {h : Heard} (hh : h = .gap ∨ h = .badStop) :
    hearAll line none (h :: rest) = hearAll line none rest := by
  rcases hh with rfl | rfl <;> rfl

theorem hearAll_start :
    hearAll line none (.byte (startMarkOf line) :: rest) =
      .startMark line :: hearAll line (some []) rest := by
  simp only [hearAll, hear, if_true, Option.toList_some, List.singleton_append]

theorem goodLength_iff (n : Byte) : goodLength n = true ↔ 1 ≤ n.toNat ∧ n.toNat ≤ 240 := by
  simp [goodLength]

theorem hearAll_badLength {n : Byte} (h : n.toNat = 0 ∨ 240 < n.toNat) :
    hearAll line none (.byte (startMarkOf line) :: .byte n :: rest) =
      [.startMark line, .frameDiscard line .badLength] ++ hearAll line none rest := by
  have hbad : ¬goodLength n = true := by rw [goodLength_iff]; omega
  rw [hearAll_start]
  simp only [hearAll, hear, takeByte, if_neg hbad]
  rfl

/-- The start mark and a good length byte begin a frame, whose kind, body and check are then taken. -/
theorem hearAll_taken {n : Byte} (hn : 1 ≤ n.toNat ∧ n.toNat ≤ 240) {begun : List Byte}
    (hb : begun.length ≤ n.toNat + 1) :
    hearAll line none ((startMarkOf line :: n :: begun).map Heard.byte ++ rest) =
      .startMark line :: hearAll line (some (n :: begun)) rest := by
  have hgood : goodLength n = true := (goodLength_iff n).mpr hn
  simp only [List.map_cons, List.cons_append, hearAll_start]
  simp only [hearAll, hear, takeByte, if_pos hgood, Option.toList_none, List.nil_append]
  rw [hearAll_begun line n begun [] rest hb, List.nil_append]

/-! ### A whole frame (R160) -/

/-- What a receiver gives of a frame whose bytes have all come. -/
def judged (kind check mark : Byte) (body : List Byte) : Instr :=
  if goodEnd line kind mark then completeFrame line kind mark (body ++ [check])
  else .frameDiscard line .badEndMark

theorem hearAll_frame (kind check mark : Byte) {body : List Byte} (h : body.length ≤ 239) :
    hearAll line none
        (([startMarkOf line, byte (body.length + 1), kind] ++ body ++ [check, mark]).map Heard.byte ++ rest) =
      [.startMark line, judged line kind check mark body] ++ hearAll line none rest := by
  have hn : (byte (body.length + 1)).toNat = body.length + 1 := by
    simp only [byte, BitVec.toNat_ofNat]
    omega
  have hsplit : ([startMarkOf line, byte (body.length + 1), kind] ++ body ++ [check, mark]).map Heard.byte ++ rest =
      (startMarkOf line :: byte (body.length + 1) :: kind :: (body ++ [check])).map Heard.byte ++
        .byte mark :: rest := by simp
  rw [hsplit, hearAll_taken line _ (by omega) (by simp [hn])]
  have hfull : ¬(body ++ [check]).length < (byte (body.length + 1)).toNat := by simp [hn]
  simp only [hearAll, hear, takeByte, if_neg hfull, judged]
  split <;> rfl

end

/-! ### A complete host frame (R162, R163) -/

section
variable {kind check mark : Byte} {body : List Byte}

theorem judged_badEnd {line : Line} (h : ¬goodEnd line kind mark = true) :
    judged line kind check mark body = .frameDiscard line .badEndMark := if_neg h

theorem judged_host (h : goodEnd .host kind mark = true) :
    judged .host kind check mark body = hostFrame kind check mark body := by
  simp [judged, h, completeFrame]

theorem judged_reader (h : goodEnd .reader kind mark = true) :
    judged .reader kind check mark body = readerFrame kind check body := by
  simp [judged, h, completeFrame]

theorem goodEnd_host_iff :
    goodEnd .host kind mark = true ↔ mark = 0x0D ∨ mark = 0x0C ∧ kind = 0x11 := by
  simp [goodEnd, and_comm]

theorem goodEnd_reader_iff : goodEnd .reader kind mark = true ↔ mark = 0x0D := by
  simp [goodEnd]

theorem hostFrame_checked (h : check = frameCheck kind body) :
    hostFrame kind check mark body = requestOf kind (decide (mark = 0x0C)) body :=
  if_neg (not_not_intro h)

/-- A kind outside R163 is no request. -/
theorem requestOf_unknown (more : Bool) (h : requestKinds.contains kind = false) :
    requestOf kind more body = .unknownKind kind := by
  unfold requestOf
  split
  case h_31 => rfl
  all_goals
    rename_i hk
    rw [← CardTables.byte_toNat kind, hk] at h
    cases h

/-! ### A complete reader frame (R166) -/

theorem readerFrame_badCheck (h : check ≠ frameCheck kind body) :
    readerFrame kind check body = .readerFrameRejected .badCheck := if_pos h

theorem readerFrame_badKind (hc : check = frameCheck kind body) (h : kind ≠ 0x01) :
    readerFrame kind check body = .readerFrameRejected .badKind := by
  unfold readerFrame
  rw [if_neg (not_not_intro hc), if_pos h]

theorem readerFrame_badLength (hc : check = frameCheck kind body) (hk : kind = 0x01)
    (h : body.length ≠ 5) : readerFrame kind check body = .readerFrameRejected .badLength := by
  unfold readerFrame
  rw [if_neg (not_not_intro hc), if_neg (not_not_intro hk)]
  split
  · exact absurd rfl h
  · rfl

theorem readerFrame_badColumn {n c3 c2 c1 c0 : Byte} (hc : check = frameCheck kind [n, c3, c2, c1, c0])
    (hk : kind = 0x01) (h : 12 ≤ n.toNat) :
    readerFrame kind check [n, c3, c2, c1, c0] = .readerFrameRejected .badColumn := by
  have hcolumn : columnOf n = none := dif_neg (by omega)
  unfold readerFrame
  rw [if_neg (not_not_intro hc), if_neg (not_not_intro hk)]
  simp only [hcolumn]

theorem readerFrame_present {n c3 c2 c1 c0 : Byte} (hc : check = frameCheck kind [n, c3, c2, c1, c0])
    (hk : kind = 0x01) {c : Column} (h : n.toNat = c.val) :
    readerFrame kind check [n, c3, c2, c1, c0] = .present c (c3 ++ c2 ++ c1 ++ c0) := by
  have hcolumn : columnOf n = some c := by
    rw [columnOf, dif_pos (by omega)]
    exact congrArg some (Fin.ext h)
  unfold readerFrame
  rw [if_neg (not_not_intro hc), if_neg (not_not_intro hk)]
  simp only [hcolumn]

end
end Sys2Proof.Proofs.Lines
end

section
/-! Proofs, Arrivals: every command that a line's bytes give ends the frame in reception, and what a line brings is one event (R159, R161, R162, R166). -/

namespace Sys2Proof.Proofs.Lines

open Sys2Proof Sys2Proof.Machine Sys2Proof.Proofs.AccessMachines

/-! ### No request touches the host receiver -/

section
variable {body : List Byte}

/-- A request's action leaves the frame in reception on the host link as it is. -/
def KeepsFrame (act : State → State × List Byte) : Prop :=
  ∀ u, (act u).1.host.frame = u.host.frame

theorem withNoBody_keepsFrame {act : State → State × List Byte} (h : KeepsFrame act) :
    KeepsFrame (withNoBody body act) := fun u => by
  unfold withNoBody
  split
  · exact h u
  · rfl

theorem withByte_keepsFrame {act : Byte → State → State × List Byte} (h : ∀ b, KeepsFrame (act b)) :
    KeepsFrame (withByte body act) := fun u => by
  unfold withByte
  split
  · exact h _ u
  · rfl

theorem withTwoBytes_keepsFrame {act : Byte → Byte → State → State × List Byte}
    (h : ∀ a b, KeepsFrame (act a b)) : KeepsFrame (withTwoBytes body act) := fun u => by
  unfold withTwoBytes
  split
  · exact h _ _ u
  · rfl

theorem withColumn_keepsFrame {act : Column → State → State × List Byte} (h : ∀ c, KeepsFrame (act c)) :
    KeepsFrame (withColumn body act) :=
  withByte_keepsFrame fun b u => by
    split
    · rfl
    · exact h _ u

theorem unlessTransfer_keepsFrame {act : State → State × List Byte} (h : KeepsFrame act) :
    KeepsFrame (unlessTransfer act) := fun u => by
  unfold unlessTransfer
  split
  · rfl
  · exact h u

theorem timeSet_keepsFrame : KeepsFrame (timeSet body) := fun u => by
  simp only [timeSet]
  repeat' split
  all_goals rfl

/-- What every item of a list leaves, the list leaves. -/
theorem foldl_host {α : Type} {f : State → α → State} (h : ∀ s a, (f s a).host = s.host)
    (l : List α) (s : State) : (l.foldl f s).host = s.host := by
  induction l generalizing s with
  | nil => rfl
  | cons a l ih => rw [List.foldl_cons, ih, h]

theorem switchColumn_host (before : Profile) (s : State) (x : Setting) :
    (switchColumn before s x).host = s.host := by
  simp only [switchColumn, enableColumn, disableColumn]
  repeat' split
  all_goals simp

theorem applySettings_host (xs : List Setting) (s : State) : (applySettings xs s).host = s.host := by
  simp only [applySettings, chooseNext_frame, rejudgeBands]
  split
  · rw [foldl_host (switchColumn_host _)]
  · rw [foldl_host fun s c => by simp, foldl_host (switchColumn_host _)]

theorem profileWrite_keepsFrame : KeepsFrame (profileWrite body) := fun u => by
  unfold profileWrite
  split
  · rfl
  · split
    · rfl
    · split
      · rfl
      · exact congrArg HostLink.frame (applySettings_host _ u)

theorem profileRead_keepsFrame : KeepsFrame (profileRead body) :=
  withByte_keepsFrame fun _ _ => by
    split
    · rfl
    · split <;> rfl

theorem alertFetch_keepsFrame : KeepsFrame (alertFetch body) :=
  withByte_keepsFrame fun _ _ => by split <;> rfl

theorem alertFloor_keepsFrame : KeepsFrame (alertFloor body) :=
  withByte_keepsFrame fun _ _ => by split <;> rfl

theorem transferRequest_keepsFrame (kind : TransferKind) : KeepsFrame (transferRequest kind body) :=
  withTwoBytes_keepsFrame fun _ _ => unlessTransfer_keepsFrame fun _ => by
    split
    · rfl
    · split <;> rfl

theorem tableData_keepsFrame (more : Bool) : KeepsFrame (tableData more body) := fun u => by
  simp only [tableData, finalWrite, finalVerify]
  repeat' split
  all_goals rfl

theorem tableErase_keepsFrame : KeepsFrame (tableErase body) :=
  withTwoBytes_keepsFrame fun _ _ => unlessTransfer_keepsFrame fun _ => by
    split
    · rfl
    · split <;> rfl

theorem tableSum_keepsFrame : KeepsFrame (tableSum body) :=
  withTwoBytes_keepsFrame fun _ _ _ => by split <;> rfl

theorem tablePin_keepsFrame : KeepsFrame (tablePin body) :=
  withTwoBytes_keepsFrame fun _ _ => unlessTransfer_keepsFrame fun _ => by split <;> rfl

theorem tableRelease_keepsFrame : KeepsFrame (tableRelease body) :=
  withNoBody_keepsFrame (unlessTransfer_keepsFrame fun _ => by
    split
    · rfl
    · split <;> rfl)

theorem cardQuery_keepsFrame : KeepsFrame (cardQuery body) := fun u => by
  simp only [cardQuery]
  repeat' split
  all_goals rfl

theorem cardModify_keepsFrame : KeepsFrame (cardModify body) := fun u => by
  simp only [cardModify]
  repeat' split
  all_goals rfl

theorem columnService_keepsFrame : KeepsFrame (columnService body) :=
  withColumn_keepsFrame fun _ _ => by
    split
    · rfl
    · split <;> simp [refuse]

theorem columnWithdraw_keepsFrame : KeepsFrame (columnWithdraw body) :=
  withColumn_keepsFrame fun _ _ => by split <;> rfl

theorem columnMeasure_keepsFrame : KeepsFrame (columnMeasure body) :=
  withColumn_keepsFrame fun _ _ => by split <;> simp [refuse]

theorem roundOpen_keepsFrame : KeepsFrame (roundOpen body) := fun u => by
  unfold roundOpen
  repeat' split
  all_goals rfl

theorem roundClaim_keepsFrame : KeepsFrame (roundClaim body) :=
  withColumn_keepsFrame fun _ _ => by split <;> simp [refuse, claim]

theorem skip_host (c : Column) (s : State) : (skip c s).host = s.host := by
  simp only [skip]
  repeat' split
  all_goals simp

theorem roundSkip_keepsFrame : KeepsFrame (roundSkip body) :=
  withColumn_keepsFrame fun _ _ => by split <;> simp [refuse, skip_host]

theorem roundKeep_keepsFrame : KeepsFrame (roundKeep body) :=
  withNoBody_keepsFrame fun _ => by split <;> rfl

theorem roundClose_keepsFrame : KeepsFrame (roundClose body) :=
  withNoBody_keepsFrame fun _ => by
    split
    · rfl
    · split <;> simp [refuse]

theorem journalRead_keepsFrame : KeepsFrame (journalRead body) :=
  withTwoBytes_keepsFrame fun _ _ _ => by split <;> rfl

theorem journalRelease_keepsFrame : KeepsFrame (journalRelease body) :=
  withTwoBytes_keepsFrame fun _ _ _ => by dsimp only; split <;> rfl

/-- A frame served or refused, the host receiver hunts again (R161, R162). -/
theorem served_hunts (kind : Byte) {act : State → State × List Byte} (h : KeepsFrame act) (s : State) :
    ∃ t, event (serve kind act) s = .next t ∧ t.host.frame = none := by
  refine ⟨_, rfl, ?_⟩
  unfold serve
  split
  · rfl
  · exact h (hostFrameEnds s.ready)

theorem request_hunts {c : Instr} (h : c.request.isSome = true) (s : State) :
    ∃ t, exec c s = .next t ∧ t.host.frame = none := by
  cases c with
  | identify _ => exact served_hunts _ (withNoBody_keepsFrame fun _ => rfl) s
  | status _ => exact served_hunts _ (withNoBody_keepsFrame fun _ => rfl) s
  | restart _ => exact served_hunts _ (withNoBody_keepsFrame fun _ => rfl) s
  | timeSet _ => exact served_hunts _ timeSet_keepsFrame s
  | periodSet _ => exact served_hunts _ (withTwoBytes_keepsFrame fun _ _ _ => rfl) s
  | profileWrite _ => exact served_hunts _ profileWrite_keepsFrame s
  | profileRead _ => exact served_hunts _ profileRead_keepsFrame s
  | alertFetch _ => exact served_hunts _ alertFetch_keepsFrame s
  | alertFloor _ => exact served_hunts _ alertFloor_keepsFrame s
  | tableWrite _ => exact served_hunts _ (transferRequest_keepsFrame .write) s
  | tableData more _ => exact served_hunts _ (tableData_keepsFrame more) s
  | tableVerify _ => exact served_hunts _ (transferRequest_keepsFrame .verify) s
  | tableErase _ => exact served_hunts _ tableErase_keepsFrame s
  | tableSum _ => exact served_hunts _ tableSum_keepsFrame s
  | tablePin _ => exact served_hunts _ tablePin_keepsFrame s
  | tableRelease _ => exact served_hunts _ tableRelease_keepsFrame s
  | cardQuery _ => exact served_hunts _ cardQuery_keepsFrame s
  | cardModify _ => exact served_hunts _ cardModify_keepsFrame s
  | columnRead _ => exact served_hunts _ (withColumn_keepsFrame fun _ _ => rfl) s
  | columnService _ => exact served_hunts _ columnService_keepsFrame s
  | columnWithdraw _ => exact served_hunts _ columnWithdraw_keepsFrame s
  | columnMeasure _ => exact served_hunts _ columnMeasure_keepsFrame s
  | roundOpen _ => exact served_hunts _ roundOpen_keepsFrame s
  | roundClaim _ => exact served_hunts _ roundClaim_keepsFrame s
  | roundSkip _ => exact served_hunts _ roundSkip_keepsFrame s
  | roundKeep _ => exact served_hunts _ roundKeep_keepsFrame s
  | roundClose _ => exact served_hunts _ roundClose_keepsFrame s
  | roundRead _ => exact served_hunts _ (withNoBody_keepsFrame fun _ => rfl) s
  | journalRead _ => exact served_hunts _ journalRead_keepsFrame s
  | journalRelease _ => exact served_hunts _ journalRelease_keepsFrame s
  | _ => nomatch h

end

/-! ### The reader receiver (R161, R166) -/

section
variable (s : State)

theorem startVerdict_keepsFrame : (startVerdict s).reader.frame = s.reader.frame := by
  unfold startVerdict
  split
  · rfl
  · split <;> rfl

theorem handVerdict_keepsFrame (v : Verdict) : (handVerdict v s).reader.frame = s.reader.frame := by
  unfold handVerdict
  rw [startVerdict_keepsFrame]
  split <;> rfl

theorem readerFrameEnds_hunts : (readerFrameEnds s).reader.frame = none :=
  startVerdict_keepsFrame { s with reader := { s.reader with frame := none } }

theorem sendVerdict_keepsFrame (c : Column) (v : VerdictCode) (m : Option Nat) (r : Option Column) :
    (sendVerdict c v m r s).reader.frame = s.reader.frame := by
  unfold sendVerdict
  rw [handVerdict_keepsFrame]
  split <;> rfl

/-- A grant hands on a verdict at most: the one of a refused release. -/
theorem makeGrant_keepsFrame (c : Column) (card : CardNumber) (f : Found) :
    (makeGrant c card f s).reader.frame = s.reader.frame := by
  have hheld : (grantHeld c card f s).reader = s.reader := by rw [grantHeld_eq]
  rw [makeGrant_eq]
  split
  · simp [hheld]
  · simp [releaseFailed, sendVerdict_keepsFrame, hheld]

theorem takePresent_keepsFrame (c : Column) (card : CardNumber) :
    (takePresent c card s).reader.frame = s.reader.frame := by
  unfold takePresent
  split
  · exact sendVerdict_keepsFrame s c _ _ _
  · rw [(chooseNext_frame _).2.2.2.2.2.2.2.2.2.2.2.2.1, makeGrant_keepsFrame]

end

/-! ### The commands that end a frame (R161, R162, R166) -/

/-- The commands with which the frame in reception on a line ends: discarded, or complete. -/
inductive EndsFrame : Line → Instr → Prop
  | discard (line : Line) (cause : DiscardCause) : EndsFrame line (.frameDiscard line cause)
  | gap (line : Line) : EndsFrame line (.interbyteGap line)
  | request (c : Instr) (h : c.request.isSome = true) : EndsFrame .host c
  | checkError : EndsFrame .host .checkError
  | unknownKind (kind : Byte) : EndsFrame .host (.unknownKind kind)
  | rejected (cause : RejectCause) : EndsFrame .reader (.readerFrameRejected cause)
  | present (c : Column) (card : CardNumber) : EndsFrame .reader (.present c card)

theorem requestOf_ends (kind : Byte) (more : Bool) (body : List Byte) :
    EndsFrame .host (requestOf kind more body) := by
  unfold requestOf
  split
  case h_31 => exact .unknownKind kind
  all_goals exact .request _ rfl

theorem completeFrame_ends (line : Line) (kind mark : Byte) (taken : List Byte) :
    EndsFrame line (completeFrame line kind mark taken) := by
  cases line with
  | host =>
    simp only [completeFrame, hostFrame]
    split
    · exact .checkError
    · exact requestOf_ends _ _ _
  | reader =>
    simp only [completeFrame, readerFrame]
    split
    · exact .rejected _
    · split
      · exact .rejected _
      · split
        · split
          · exact .rejected _
          · exact .present _ _
        · exact .rejected _

theorem takeByte_gives {line : Line} {taken : List Byte} {b : Byte} {c : Instr}
    (hc : (takeByte line taken b).2 = some c) :
    EndsFrame line c ∧ (takeByte line taken b).1 = none := by
  unfold takeByte at hc ⊢
  split at hc
  · split at hc
    · cases hc
    · rename_i hbad
      cases hc
      exact ⟨.discard line .badLength, by simp [hbad]⟩
  · cases hc
  · split at hc
    · cases hc
    · rename_i hfull
      split at hc
      · rename_i hend
        cases hc
        exact ⟨completeFrame_ends _ _ _ _, by simp [hfull, hend]⟩
      · rename_i hend
        cases hc
        exact ⟨.discard line .badEndMark, by simp [hfull, hend]⟩

/-- A hunting receiver gives its start mark alone; one in a frame gives what ends the frame. -/
theorem hear_gives {line : Line} {r : Receiver} {h : Heard} {c : Instr}
    (hc : (hear line r h).2 = some c) :
    (r = none ∧ c = .startMark line ∧ (hear line r h).1 = some []) ∨
      (EndsFrame line c ∧ (hear line r h).1 = none) := by
  cases r with
  | none =>
    cases h with
    | byte b =>
      simp only [hear] at hc
      split at hc
      · rename_i hstart
        cases hc
        exact .inl ⟨rfl, rfl, by simp only [hear, if_pos hstart]⟩
      · cases hc
    | badStop => cases hc
    | gap => cases hc
  | some taken =>
    cases h with
    | byte b => exact .inr (takeByte_gives hc)
    | badStop => cases hc; exact .inr ⟨.discard line .framingError, rfl⟩
    | gap => cases hc; exact .inr ⟨.gap line, rfl⟩

theorem discardFrame_hunts (line : Line) (s : State) :
    (discardFrame line s).reception line = none := by
  cases line with
  | host =>
    simp only [discardFrame]
    split
    · rfl
    · exact Option.not_isSome_iff_eq_none.mp ‹_›
  | reader =>
    simp only [discardFrame]
    split
    · exact readerFrameEnds_hunts s
    · exact Option.not_isSome_iff_eq_none.mp ‹_›

theorem interbyteGap_hunts (line : Line) (s : State) :
    ∃ t, exec (.interbyteGap line) s = .next t ∧ t.reception line = none := by
  refine ⟨_, rfl, ?_⟩
  dsimp only
  split
  · assumption
  · exact discardFrame_hunts line _

/-- After a command that ends its frame a receiver hunts again. -/
theorem exec_hunts {line : Line} {c : Instr} (h : EndsFrame line c) {s : State}
    (hq : line = .reader → s.reader.sending = none) :
    ∃ t, exec c s = .next t ∧ t.reception line = none := by
  cases h with
  | discard line cause => exact ⟨_, rfl, discardFrame_hunts line s.ready⟩
  | gap line => exact interbyteGap_hunts line s
  | request c h => exact request_hunts h s
  | checkError => exact served_hunts 0xFF (fun _ => rfl) s
  | unknownKind kind => exact served_hunts 0xFF (fun _ => rfl) s
  | rejected cause =>
    have hquiet : ¬s.ready.reader.sending.isSome = true := by simp [hq rfl]
    simp only [exec, execReaderFrameRejected, event, if_neg hquiet]
    exact ⟨_, rfl, readerFrameEnds_hunts _⟩
  | present c card =>
    have hquiet : ¬s.ready.reader.sending.isSome = true := by simp [hq rfl]
    simp only [exec, execPresent, event, if_neg hquiet]
    refine ⟨_, rfl, ?_⟩
    split
    · exact readerFrameEnds_hunts _
    · exact (takePresent_keepsFrame _ c card).trans (readerFrameEnds_hunts _)

theorem startMark_begins {line : Line} {s : State} (hr : s.receiver line = none)
    (hq : line = .reader → s.reader.sending = none) :
    ∃ t, exec (.startMark line) s = .next t ∧ t.receiver line = some [] := by
  have hnone : s.reception line = none := Option.map_eq_none_iff.mp hr
  cases line with
  | host =>
    have hframe : s.host.frame = none := hnone
    refine ⟨_, rfl, ?_⟩
    simp [State.receiver, State.reception, hframe, beginFrame]
  | reader =>
    have hframe : s.reader.frame = none := hnone
    have hquiet : ¬s.ready.reader.sending.isSome = true := by simp [hq rfl]
    simp only [exec, execStartMark, event, if_neg hquiet]
    refine ⟨_, rfl, ?_⟩
    simp [State.receiver, State.reception, hframe, beginFrame]

/-! ### One event (R159, R161) -/

section
variable {s : State} {line : Line}

theorem deaf_iff : s.deaf line = true ↔ line = .reader ∧ s.reader.sending.isSome = true := by
  simp [State.deaf]

theorem deaf_false (hq : line = .reader → s.reader.sending = none) : s.deaf line = false := by
  rw [Bool.eq_false_iff, ne_eq, deaf_iff]
  rintro ⟨hl, hsome⟩
  simp [hq hl] at hsome

theorem arrive_joins {h : Heard} (hq : line = .reader → s.reader.sending = none)
    (hc : (hear line (s.receiver line) h).2 = none) :
    arrive line h s = .next (s.setReceiver line (hear line (s.receiver line) h).1) := by
  rw [arrive, deaf_false hq, if_neg Bool.false_ne_true]
  generalize hear line (s.receiver line) h = heard at hc ⊢
  obtain ⟨r, o⟩ := heard
  cases hc
  rfl

theorem arrive_command {h : Heard} {c : Instr} (hq : line = .reader → s.reader.sending = none)
    (hc : (hear line (s.receiver line) h).2 = some c) : arrive line h s = exec c s := by
  rw [arrive, deaf_false hq, if_neg Bool.false_ne_true]
  generalize hear line (s.receiver line) h = heard at hc ⊢
  obtain ⟨r, o⟩ := heard
  cases hc
  rfl

/-- The command that comes of what is heard leaves the receiver as the hearing does. -/
theorem exec_heard {h : Heard} {c : Instr} (hq : line = .reader → s.reader.sending = none)
    (hc : (hear line (s.receiver line) h).2 = some c) :
    ∃ t, exec c s = .next t ∧ t.receiver line = (hear line (s.receiver line) h).1 := by
  rcases hear_gives hc with ⟨hr, rfl, hbegun⟩ | ⟨hends, hhunts⟩
  · rw [hbegun]
    exact startMark_begins hr hq
  · obtain ⟨t, ht, hnone⟩ := exec_hunts hends hq
    exact ⟨t, ht, by rw [hhunts, State.receiver, hnone]; rfl⟩

end
/-- Settles O7: the commands of the lines by their events, a frame by its bytes, what a line brings by the
command it gives, and what goes out by the frame of the reply or of the verdict. -/
theorem linesReceiveAndSend : Obligations.LinesReceiveAndSend := by
  refine ⟨?_, ⟨?_, ?_, ?_, ?_, ?_⟩, ?_, ?_, ?_, ?_, ?_, ?_, ?_⟩
  · intro s hs begun
    refine ⟨?_, ?_, fun cause => ?_, fun cause hf => ?_, fun cause hf hq => ?_, fun line hr => ?_,
      fun line cause r hr => ?_⟩
    · rw [startMark_host hs, beginFrame_eq]
    · rw [startMark_reader hs, beginFrame_eq]
    · exact frameDiscard_discards hs .host cause
    · rw [frameDiscard_discards hs, discardFrame, if_neg (by simp [hf])]
    · rw [frameDiscard_discards hs, discardFrame_reader hf hq]
      cases hw : s.reader.waiting <;> simp only [nextBegun, hw]
    · exact interbyteGap_hunting hs hr
    · rw [interbyteGap_discards hs hr]
      exact (frameDiscard_discards (s := reach r.gap s) hs line cause).symm
  · intro s h hs hi
    exact replySent_frees hs hi
  · intro s v hs hv hf
    refine (verdictSent_next hs hv hf).trans ?_
    cases hw : s.reader.waiting <;> simp only [nextBegun, hw]
  · intro s cause hs hq
    refine (readerFrameRejected_ends hs cause hq).trans ?_
    cases hw : s.reader.waiting <;> simp only [nextBegun, hw]
  · exact fun s v => handVerdict_busy v
  · exact fun s v => handVerdict_free v
  · intro kind check mark body rest hlength sum heard hostGives readerGives hostEnd
    have host {c : Instr} (hc : judged .host kind check mark body = c) : hostGives c :=
      hc ▸ hearAll_frame .host rest kind check mark hlength
    have reader {c : Instr} (hc : judged .reader kind check mark body = c) : readerGives c :=
      hc ▸ hearAll_frame .reader rest kind check mark hlength
    have hsum : sum = 0 ↔ check = frameCheck kind body := check_iff kind check body
    have hgood : hostEnd ↔ goodEnd .host kind mark = true := goodEnd_host_iff.symm
    have hrequest (he : hostEnd) (h0 : sum = 0) : judged .host kind check mark body =
        requestOf kind (decide (mark = 0x0C)) body :=
      (judged_host (hgood.mp he)).trans (hostFrame_checked (hsum.mp h0))
    have hreader (he : mark = 0x0D) : judged .reader kind check mark body = readerFrame kind check body :=
      judged_reader (goodEnd_reader_iff.mpr he)
    refine ⟨fun he => ?_, fun he h0 => ?_, fun he h0 hk => ?_, fun he h0 c hc hm => ?_, fun he => ?_,
      fun he h0 => ?_, fun he h0 hk => ?_, fun he h0 hk hl => ?_,
      fun n c3 c2 c1 c0 he h0 hk hb => ⟨fun hn => ?_, fun c hn => ?_⟩⟩
    · exact host (judged_badEnd fun hg => he (hgood.mpr hg))
    · exact host ((judged_host (hgood.mp he)).trans (if_pos fun hc => h0 (hsum.mpr hc)))
    · exact host ((hrequest he h0).trans (requestOf_unknown _ hk))
    · exact host ((hrequest he h0).trans (hm ▸ requestOf_request c kind body hc))
    · exact reader (judged_badEnd fun hg => he (goodEnd_reader_iff.mp hg))
    · exact reader ((hreader he).trans (readerFrame_badCheck fun hc => h0 (hsum.mpr hc)))
    · exact reader ((hreader he).trans (readerFrame_badKind (hsum.mp h0) hk))
    · exact reader ((hreader he).trans (readerFrame_badLength (hsum.mp h0) hk hl))
    · subst hb
      exact reader ((hreader he).trans (readerFrame_badColumn (hsum.mp h0) hk hn))
    · subst hb
      exact reader ((hreader he).trans (readerFrame_present (hsum.mp h0) hk hn))
  · intro line rest start
    have hstart : start = startMarkOf line := by cases line <;> rfl
    refine ⟨fun b hb => ?_, fun h => hearAll_disturbed line rest, fun n hn => ?_,
      fun n begun h1 h240 hb => ⟨?_, ?_⟩⟩
    · exact hearAll_hunting line rest (hstart ▸ hb)
    · rw [hstart]
      exact hearAll_badLength line rest hn
    · rw [hstart, hearAll_taken line _ ⟨h1, h240⟩ hb]
      rfl
    · rw [hstart, hearAll_taken line _ ⟨h1, h240⟩ hb]
      rfl
  · intro s line h hq
    exact ⟨rfl, arrive_joins hq, fun c hc => ⟨arrive_command hq hc, exec_heard hq hc⟩⟩
  · exact State.setReceiver_reception
  · intro s h hsending
    exact if_pos (deaf_iff.mpr ⟨rfl, hsending⟩)
  · exact hearAll_append
  · intro s
    refine ⟨htx_none, fun h hi hsent => ?_, fun hq => ?_, fun v hv hone => ?_⟩
    · rw [htx_reply hi hsent]
      exact frame_checked 0xA2 _ _
    · exact ⟨by simp [State.rdir, hq], by simp [State.rtx, hq]⟩
    · have hrtx : s.rtx = some (frame 0xB2 0x02 v.body) := by simp [State.rtx, hv, Verdict.frame]
      intro code body
      have hcode : v.code.code = code := by
        simp only [code]
        cases v.code <;> rfl
      have hbody : v.body = body := by
        simp only [Verdict.body, hcode, body]
        rcases hone with h | h
        · rw [h]
          cases v.redirect <;> rfl
        · rw [h]
          cases v.remaining <;> rfl
      rw [hrtx, hbody]
      exact ⟨by simp [State.rdir, hv], frame_checked 0xB2 0x02 body⟩

end Sys2Proof.Proofs.Lines
end

section
/-! Proofs, FillEstimates: the result of a burst's slots, the fill that a distance converts to, and the band with the alert of its change (R88, R98, R103, R104). -/

namespace Sys2Proof.Proofs.FillEstimates

open Sys2Proof Sys2Proof.Machine

/-! ### The result of three slots (R88) -/

section
variable (tol a b c : Nat)

/-- The middle value is one of the three. -/
theorem median_mem : median a b c = a ∨ median a b c = b ∨ median a b c = c := by
  unfold median
  omega

/-- A property of two of three values is counted at least twice. -/
theorem two_le_filter (p : Nat → Prop) [DecidablePred p] (h : p a ∧ p b ∨ p a ∧ p c ∨ p b ∧ p c) :
    2 ≤ ([a, b, c].filter fun x => decide (p x)).length := by
  rw [← List.countP_eq_length_filter]
  simp only [List.countP_cons, List.countP_nil]
  rcases h with ⟨h1, h2⟩ | ⟨h1, h2⟩ | ⟨h1, h2⟩ <;> simp only [h1, h2, decide_true, if_true] <;> omega

/-- Two of three values are at most the middle one. -/
theorem two_le_median : 2 ≤ ([a, b, c].filter fun x => decide (x ≤ median a b c)).length := by
  refine two_le_filter a b c (· ≤ median a b c) ?_
  simp only [median]
  omega

/-- Two of three values are at least the middle one. -/
theorem two_ge_median : 2 ≤ ([a, b, c].filter fun x => decide (median a b c ≤ x)).length := by
  refine two_le_filter a b c (median a b c ≤ ·) ?_
  simp only [median]
  omega

theorem formResult_three : formResult tol [.distance a, .distance b, .distance c] =
    if max a (max b c) - min a (min b c) ≤ tol then .success (median a b c) else .unstable := rfl

theorem formResult_two {l : List PingResult} (h : validDistances l = [a, b]) :
    formResult tol l = if max a b - min a b ≤ tol then .success (min a b) else .unstable := by
  simp only [formResult, h]

theorem formResult_few {l : List PingResult} (h : (validDistances l).length ≤ 1) :
    formResult tol l = .noEcho := by
  unfold formResult
  split
  · next hl => simp [hl] at h
  · next hl => simp [hl] at h
  · rfl

end

/-! ### The fill of a distance (R98) -/

section
variable {e f d : Nat}

theorem convertFill_empty (h : e ≤ d) : convertFill e f d = 0 := if_pos h

theorem convertFill_full (hfe : f < e) (h : d ≤ f) : convertFill e f d = 200 := by
  rw [convertFill, if_neg (by omega), if_pos h]

theorem convertFill_between (hf : f < d) (he : d < e) :
    convertFill e f d = 200 * (e - d) / (e - f) := by
  rw [convertFill, if_neg (by omega), if_neg (by omega)]

theorem convertFill_le (hfe : f < e) : convertFill e f d ≤ 200 := by
  rcases Nat.lt_or_ge d e with he | he
  · rcases Nat.lt_or_ge f d with hf | hf
    · rw [convertFill_between hf he]
      exact Nat.div_le_of_le_mul (by rw [Nat.mul_comm]; exact Nat.mul_le_mul_right _ (by omega))
    · exact (convertFill_full hfe hf).le
  · rw [convertFill_empty he]
    omega

end

/-! ### The band and its alert (R103, R104) -/

/-- The alert list after a band has changed (R104). -/
def bandRaised (old new : Band) (c : Column) (t : Reading) (a : AlertList) : AlertList :=
  if old = .normal ∧ new = .nearFull then a.raise .nearFull (some c) t
  else if old ≠ .full ∧ new = .full then a.raise .columnFull (some c) t
  else a

theorem raiseIf_bandAlert (old new : Band) (c : Column) (s : State) :
    raiseIf (bandAlert old new) (some c) s =
      { s with alerts := bandRaised old new c s.clock.reading s.alerts } := by
  cases old <;> cases new <;> rfl

/-- A band recomputed changes the column's band and raises the alert of the change. -/
theorem recomputeBand_eq (c : Column) (s : State) :
    let new := nextBand s.profile.nearFull s.profile.full s.fills[c].band s.fills[c].estimate
    recomputeBand c s =
      { s with
        fills := s.fills.set c { s.fills[c] with band := new },
        alerts := bandRaised s.fills[c].band new c s.clock.reading s.alerts } := by
  simp only [recomputeBand, raiseIf_bandAlert]
  rfl

section
variable {n u est : Nat} {old : Band}

theorem nextBand_full (h : old = .full) :
    nextBand n u old est = if n ≤ est then .full else .normal := by
  rw [h]
  rfl

theorem nextBand_notFull (h : old ≠ .full) :
    nextBand n u old est = if u ≤ est then .full else if n ≤ est then .nearFull else .normal := by
  cases old with
  | full => exact absurd rfl h
  | normal => rfl
  | nearFull => rfl

end

/-- Settles O52: the slots by the number of their valid distances, the fill by the three ranges of the
distance, the band by whether it was FULL. -/
theorem measurementConvertedAndBanded : Obligations.MeasurementConvertedAndBanded := by
  refine ⟨⟨fun tol a b c h => ?_, fun tol a b c h => ?_, fun tol a b l hl => ?_, fun tol a l hl => ?_,
    fun e f d hfe => ⟨convertFill_empty, convertFill_full hfe, convertFill_between, convertFill_le hfe⟩⟩,
    fun s c hnu => ⟨_, recomputeBand_eq c s, fun hold hn => ?_, fun hold hn => ?_, fun hold hu => ?_,
      fun hold hn hu => ?_, fun hold hn => ?_⟩⟩
  · exact ⟨median a b c, if_pos h, median_mem a b c, two_le_median a b c, two_ge_median a b c⟩
  · exact if_neg (Nat.not_le.mpr h)
  · refine formResult_two tol a b ?_
    fin_cases hl <;> rfl
  · refine formResult_few tol ?_
    fin_cases hl <;> simp [validDistances]
  · rw [nextBand_full hold, if_pos hn]
  · rw [nextBand_full hold, if_neg (Nat.not_le.mpr hn)]
  · rw [nextBand_notFull hold, if_pos hu]
  · rw [nextBand_notFull hold, if_neg (Nat.not_le.mpr hu), if_pos hn]
  · rw [nextBand_notFull hold, if_neg (Nat.not_le.mpr (hn.trans hnu)), if_neg (Nat.not_le.mpr hn)]

end Sys2Proof.Proofs.FillEstimates
end

section
/-! Proofs, ChoicesMade: which columns are eligible, and what the free engine makes of the forced queue, the pause and the scan pointer (R90, R91, R94, R95). -/

namespace Sys2Proof.Proofs.RangingEngine

open Sys2Proof Sys2Proof.Machine

section
variable (s : State)

/-! ### Eligibility (R90) -/

theorem claims_false_iff (r : Round) (c : Column) :
    r.claims c = false ↔ ∀ e ∈ r.manifest, e.column = c → e.status ≠ .active := by
  simp [Round.claims]

/-- A column is in no stage of its round but MEASURING. -/
theorem stageOf_iff (r : Round) (c : Column) :
    (r.stageOf c = none ∨ r.stageOf c = some .measuring) ↔
      (∀ e ∈ r.manifest, e.column = c → e.status ≠ .active) ∨ r.stage = none ∨
        r.stage = some .measuring := by
  rw [← claims_false_iff]
  unfold Round.stageOf
  cases r.claims c <;> simp

theorem eligible_iff (c : Column) : eligible s c = true ↔
    (s.sups[c].condition = .inService ∨ s.sups[c].condition = .outOfService) ∧
      s.sups[c].lift.level = true ∧ s.sups[c].hatchOpen = false ∧ s.access[c].state = .locked ∧
      ((∀ e ∈ s.round.manifest, e.column = c → e.status ≠ .active) ∨ s.round.stage = none ∨
        s.round.stage = some .measuring) := by
  rw [← stageOf_iff]
  simp [eligible, Supervisor.liftOut, and_assoc]

/-! ### Forced work and the pause (R91, R95) -/

section
variable {s}

/-- The first eligible column of the queue is taken from it and its burst begins. -/
theorem chooseNext_forced_eq {before after : List Column} {c : Column} (hb : s.ranging.burst = none)
    (hq : s.ranging.queue = before ++ c :: after) (hbefore : ∀ k ∈ before, eligible s k = false)
    (hc : eligible s c = true) :
    chooseNext s =
      startBurst c (if s.round.stageOf c = some .measuring then .emptying else .forced)
        { s with ranging := { s.ranging with queue := before ++ after } } := by
  have hfind : s.ranging.queue.find? (eligible s) = some c := by
    rw [hq, List.find?_append, List.find?_eq_none.mpr fun k hk => by simp [hbefore k hk]]
    simp [hc]
  have hfirst : c ∉ before := fun hmem => by simp [hbefore c hmem] at hc
  have herase : s.ranging.queue.erase c = before ++ after := by
    rw [hq, List.erase_append_right _ hfirst, List.erase_cons_head]
  simp only [chooseNext, hb, hfind, herase, Option.isSome_none, Bool.false_eq_true, if_false]

/-- Without forced work the engine waits for the end of the pause. -/
theorem chooseNext_pauses (hb : s.ranging.burst = none) (hp : s.ranging.pause.isSome = true)
    (hq : ∀ k ∈ s.ranging.queue, eligible s k = false) : chooseNext s = s := by
  have hfind : s.ranging.queue.find? (eligible s) = none :=
    List.find?_eq_none.mpr fun k hk => by simp [hq k hk]
  rw [chooseNext, hfind, hb]
  exact if_pos hp

/-- Without forced work or a pause the engine measures the eligible column at the pointer whose skip
counter is 0. -/
theorem chooseNext_measures {c : Column} (hb : s.ranging.burst = none) (hp : s.ranging.pause = none)
    (hq : ∀ k ∈ s.ranging.queue, eligible s k = false) (hc : s.ranging.pointer = c)
    (he : eligible s c = true) (hs : s.ranging.heads[c].skip = 0) :
    chooseNext s = startBurst c .scan (reloadSkip c s) := by
  subst hc
  rw [chooseNext_scan s hb hp hq, scanWalk_measures 11 s he hs]

end

/-! ### A column passed by the scan (R94, R95) -/

/-- The heads after the column at the pointer has been passed: its skip counter is lowered if it is
eligible. -/
def passedHeads : Vector Head 12 :=
  let p := s.ranging.pointer
  s.ranging.heads.set p
    { s.ranging.heads[p] with
      skip := if eligible s p then s.ranging.heads[p].skip - 1 else s.ranging.heads[p].skip }

/-- The column at the pointer has been passed, and the pointer still stands there. -/
def passed : State := { s with ranging := { s.ranging with heads := passedHeads s } }

theorem passed_eq :
    passed s = if eligible s s.ranging.pointer then lowerSkip s.ranging.pointer s else s := by
  simp only [passed, passedHeads]
  split
  · rfl
  · have hself : s.ranging.heads.set s.ranging.pointer s.ranging.heads[s.ranging.pointer] =
        s.ranging.heads := by simp
    exact congrArg (fun hs => { s with ranging := { s.ranging with heads := hs } }) hself

theorem passedHeads_self :
    let p := s.ranging.pointer
    (passedHeads s)[p] =
      { s.ranging.heads[p] with
        skip := if eligible s p then s.ranging.heads[p].skip - 1 else s.ranging.heads[p].skip } := by
  simp [passedHeads]

theorem passedHeads_other {k : Column} (h : k ≠ s.ranging.pointer) :
    (passedHeads s)[k] = s.ranging.heads[k] :=
  Ranging.modHead_other s.ranging.pointer s.ranging (fun hd => { hd with skip := _ }) h

variable {s}

theorem scanWalk_passes (n : Nat)
    (h : eligible s s.ranging.pointer = false ∨ s.ranging.heads[s.ranging.pointer].skip ≠ 0) :
    scanWalk (n + 1) s =
      if (advancePointer (passed s)).ranging.pause.isSome then advancePointer (passed s)
      else scanWalk n (advancePointer (passed s)) := by
  have hpass : ¬(eligible s s.ranging.pointer && decide (s.ranging.heads[s.ranging.pointer].skip = 0)) =
      true := by
    simp only [Bool.and_eq_true, decide_eq_true_eq, not_and_or, Bool.not_eq_true]
    exact h
  rw [scanWalk]
  simp only [if_neg hpass, passed_eq]

/-- With the steps that the pointer has left to column 11, more steps make no difference. -/
theorem scanWalk_enough {n m : Nat} (hp : s.ranging.pause = none)
    (hn : 12 ≤ n + s.ranging.pointer.val) (hm : 12 ≤ m + s.ranging.pointer.val) :
    scanWalk n s = scanWalk m s := by
  induction n generalizing m s with
  | zero => have := s.ranging.pointer.isLt; omega
  | succ n ih =>
    obtain ⟨m, rfl⟩ : ∃ k, m = k + 1 :=
      Nat.exists_eq_succ_of_ne_zero (by have := s.ranging.pointer.isLt; omega)
    by_cases hmeasure : eligible s s.ranging.pointer = true ∧
        s.ranging.heads[s.ranging.pointer].skip = 0
    · rw [scanWalk_measures n s hmeasure.1 hmeasure.2, scanWalk_measures m s hmeasure.1 hmeasure.2]
    · have hpass : eligible s s.ranging.pointer = false ∨
          s.ranging.heads[s.ranging.pointer].skip ≠ 0 := by
        rwa [not_and_or, Bool.not_eq_true] at hmeasure
      rw [scanWalk_passes n hpass, scanWalk_passes m hpass]
      rcases advancePointer_pointer (passed s) hp with hends | ⟨hpause, hnext⟩
      · rw [if_pos hends, if_pos hends]
      · have hval : (advancePointer (passed s)).ranging.pointer.val = s.ranging.pointer.val + 1 := hnext
        rw [ih (m := m) hpause (by omega) (by omega)]

/-- A column passed at the last place ends the cycle, and the pause begins. -/
theorem chooseNext_ends_cycle (hb : s.ranging.burst = none) (hp : s.ranging.pause = none)
    (hq : ∀ k ∈ s.ranging.queue, eligible s k = false)
    (h : eligible s s.ranging.pointer = false ∨ s.ranging.heads[s.ranging.pointer].skip ≠ 0)
    (hlast : s.ranging.pointer = 11) :
    chooseNext s =
      { s with
        ranging := { s.ranging with
          pointer := 0, heads := passedHeads s,
          pause := some (s.now + s.profile.scanPause * 1000) } } := by
  have hadvance : advancePointer (passed s) =
      { s with
        ranging := { s.ranging with
          pointer := 0, heads := passedHeads s,
          pause := some (s.now + s.profile.scanPause * 1000) } } := if_pos hlast
  rw [chooseNext_scan s hb hp hq, scanWalk_passes 11 h, hadvance]
  rfl

/-- The column at the pointer has been passed, and the pointer has moved on by one. -/
def steppedOn (s : State) : State :=
  { s with ranging := { s.ranging with pointer := s.ranging.pointer + 1, heads := passedHeads s } }

/-- A column passed at another place: the choice is the one from the next column. -/
theorem chooseNext_steps_on (hb : s.ranging.burst = none) (hp : s.ranging.pause = none)
    (hq : ∀ k ∈ s.ranging.queue, eligible s k = false)
    (h : eligible s s.ranging.pointer = false ∨ s.ranging.heads[s.ranging.pointer].skip ≠ 0)
    (hlast : s.ranging.pointer ≠ 11) : chooseNext s = chooseNext (steppedOn s) := by
  have hadvance : advancePointer (passed s) = steppedOn s := if_neg hlast
  have hpause : (steppedOn s).ranging.pause = none := hp
  have hpointer : (steppedOn s).ranging.pointer.val = s.ranging.pointer.val + 1 :=
    Fin.val_add_one_of_lt (Fin.lt_last_iff_ne_last.mpr hlast)
  calc chooseNext s
    _ = scanWalk 12 s := chooseNext_scan s hb hp hq
    _ = scanWalk 11 (steppedOn s) := by
      rw [scanWalk_passes 11 h, hadvance, if_neg (by simp [hpause])]
    _ = scanWalk 12 (steppedOn s) := scanWalk_enough hpause (by omega) (by omega)
    _ = chooseNext (steppedOn s) := (chooseNext_scan (steppedOn s) hb hpause hq).symm

end

/-- Settles O51: the choice by the first eligible column of the queue, else by the pause, else by the
column at the pointer. -/
theorem engineChoosesNext : Obligations.EngineChoosesNext := by
  refine ⟨?_, eligible_iff, fun s => ⟨chooseNext_chosen s, fun hdue c hc => ?_⟩⟩
  · intro s hb r start
    refine ⟨fun before c after hq hbefore hc => chooseNext_forced_eq hb hq hbefore hc, fun hq =>
      ⟨fun hp => chooseNext_pauses hb hp hq, fun hp he hskip => ?_, fun hp hpass => ?_⟩⟩
    · refine ⟨_, chooseNext_measures hb hp hq rfl he hskip, ?_, fun k hk => ?_⟩
      · exact Ranging.modHead_self _ _ _
      · exact Ranging.modHead_other _ _ _ hk
    · exact ⟨passedHeads s, passedHeads_self s, fun k hk => passedHeads_other s hk,
        chooseNext_ends_cycle hb hp hq hpass, chooseNext_steps_on hb hp hq hpass⟩
  · rw [exec_ready c s hc, ready_due s hdue]

end Sys2Proof.Proofs.RangingEngine
end

section
/-! Proofs, PingsHeard: the ping fired, what an echo or its absence makes of an open window, and the expiry of the pause (R86, R87, R95). -/

namespace Sys2Proof.Proofs.RangingEngine

open Sys2Proof Sys2Proof.Machine

section
variable {s : State} {b : Burst} {n opened : Nat}

/-! ### No burst, or no window (R86, R87) -/

theorem echo_free (hs : s.chosen) (hb : s.ranging.burst = none) : exec (.echo n) s = .next s := by
  simp only [exec, execEcho, event_chosen _ s hs, hb]

theorem echo_shut (hs : s.chosen) (hb : s.ranging.burst = some b) (hw : b.window = none) :
    exec (.echo n) s = .next s := by
  simp only [exec, execEcho, event_chosen _ s hs, hb, hw]

theorem ping_free (hs : s.chosen) (hb : s.ranging.burst = none) : exec .ping s = .next s := by
  simp only [exec, execPing, event_chosen _ s hs, firePing, hb]

/-- The ping in hand is fired at its offset, and its window opens. -/
theorem ping_fired (hs : s.chosen) (hb : s.ranging.burst = some b) (hw : b.window = none)
    (hlen : b.results.length < 3) :
    let now := max s.now (b.start + 60 * (b.results.length + 1))
    exec .ping s = .next
      { s with
        now := now, ranging := { s.ranging with burst := some { b with window := some now } } } := by
  have hfire : b.window.isNone = true ∧ b.results.length < 3 := ⟨by simp [hw], hlen⟩
  simp only [exec, execPing, event_chosen _ s hs, firePing, hb, if_pos hfire]
  rfl

/-! ### An open window (R87) -/

theorem echo_below (hs : s.chosen) (hb : s.ranging.burst = some b) (hw : b.window = some opened)
    (hn : n < b.blanking) (h4000 : n < 4000) :
    exec (.echo n) s = .next (reach (opened + 2 * n / 343) s) := by
  simp only [exec, execEcho, event_chosen _ s hs, hb, hw, if_neg (Nat.not_le.mpr h4000 : ¬windowEnd ≤ n),
    if_pos hn]
  rfl

theorem echo_heard (hs : s.chosen) (hb : s.ranging.burst = some b) (hw : b.window = some opened)
    (hn : b.blanking ≤ n) (h4000 : n < 4000) :
    exec (.echo n) s = .next (closeWindow b (.distance n) (reach (opened + 2 * n / 343) s)) := by
  simp only [exec, execEcho, event_chosen _ s hs, hb, hw, if_neg (Nat.not_le.mpr h4000 : ¬windowEnd ≤ n),
    if_neg (Nat.not_lt.mpr hn)]
  rfl

theorem noEcho_heard (hs : s.chosen) (hb : s.ranging.burst = some b) (hw : b.window = some opened) :
    exec .noEcho s = .next (closeWindow b .noEcho (reach (opened + 2 * 4000 / 343) s)) := by
  simp only [exec, execNoEcho, event_chosen _ s hs, hb, hw]
  rfl

/-- The first and the second window fill their slots. -/
theorem closeWindow_early (hlen : b.results.length < 2) (r : PingResult) :
    closeWindow b r s =
      { s with
        ranging := { s.ranging with
          burst := some { b with window := none, results := b.results ++ [r] } } } := by
  have hthird : ¬(b.results ++ [r]).length = 3 := by
    rw [List.length_append, List.length_singleton]
    omega
  simp only [closeWindow, if_neg hthird]

/-! ### The end of the pause (R95) -/

theorem pause_expires {due : Nat} (hs : s.chosen) (hp : s.ranging.pause = some due) :
    exec .scanPauseExpiry s =
      .next (chooseNext
        { s with now := max s.now due, ranging := { s.ranging with pause := none } }) := by
  simp only [exec, execScanPauseExpiry, event_chosen _ s hs, hp]
  rfl

end

/-- Settles O49: the burst and its window decide what a ping and an echo do; at the end of the pause
the pointer waits at column 0. -/
theorem pingsFiredAndHeard : Obligations.PingsFiredAndHeard := by
  intro s hs
  refine ⟨fun hb n => echo_free hs hb, ping_free hs, fun b hb => ⟨fun hw n => echo_shut hs hb hw,
    ping_fired hs hb, fun opened hw => ⟨fun n hn h4000 => echo_below hs hb hw hn h4000,
      fun n hn h4000 hlen => ?_, fun hlen => ?_⟩⟩, fun due hp => ?_⟩
  · rw [echo_heard hs hb hw hn h4000, closeWindow_early hlen]
    rfl
  · rw [noEcho_heard hs hb hw, closeWindow_early hlen]
    rfl
  · intro now stopped
    have hexpires : exec .scanPauseExpiry s = .next (chooseNext stopped) := pause_expires hs hp
    refine ⟨fun hb => ?_, fun hb => ⟨hexpires, fun hlaw hq he hskip => ?_⟩⟩
    · rw [hexpires, chooseNext_busy stopped hb]
    · obtain ⟨-, -, hpointer, -⟩ := hlaw
      have hpointer : stopped.ranging.pointer = 0 := hpointer (by rw [hp]; rfl)
      have hmeasures : chooseNext stopped = startBurst 0 .scan (reloadSkip 0 stopped) :=
        chooseNext_measures hb rfl hq hpointer he hskip
      rw [hexpires, hmeasures]
      exact ⟨_, rfl, rfl, rfl, rfl, rfl, hpointer, rfl⟩

end Sys2Proof.Proofs.RangingEngine
end

section
/-! Proofs, ResultsHandedOn: the third window closes, and the burst's result goes to the engine's record, the tracker and the round (R88, R97, R99, R100, R102, R104, R124). -/

namespace Sys2Proof.Proofs.RangingEngine

open Sys2Proof Sys2Proof.Machine Sys2Proof.Proofs.FillEstimates Sys2Proof.Proofs.AccessMachines

/-! ### The engine's records through a choice (R94) -/

theorem modHead_ranging (s : State) (c : Column) (f : Head → Head) :
    (s.modHead c f).ranging = s.ranging.modHead c f := rfl

/-- The pointer moves in the engine alone, past its heads. -/
theorem advancePointer_ranging (s : State) :
    advancePointer s = { s with ranging := (advancePointer s).ranging } ∧
      (advancePointer s).ranging.heads = s.ranging.heads := by
  unfold advancePointer
  split <;> exact ⟨rfl, rfl⟩

section
variable {α : Type} {view : Head → α} (hview : ∀ h n, view { h with skip := n } = view h)
include hview

/-- A head whose skip counter alone is changed shows the same of the rest. -/
theorem modHead_view (r : Ranging) (c k : Column) {f : Head → Head}
    (hf : ∀ h, ∃ n, f h = { h with skip := n }) :
    view (r.modHead c f).heads[k] = view r.heads[k] := by
  by_cases hk : k = c
  · subst hk
    obtain ⟨n, hn⟩ := hf r.heads[k]
    exact (congrArg view (Ranging.modHead_self k r f)).trans (hn ▸ hview _ n)
  · exact congrArg view (Ranging.modHead_other c r f hk)

theorem scanWalk_view (n : Nat) (s : State) (k : Column) :
    view (scanWalk n s).ranging.heads[k] = view s.ranging.heads[k] := by
  induction n generalizing s with
  | zero => rfl
  | succ n ih =>
    by_cases hmeasure : eligible s s.ranging.pointer = true ∧
        s.ranging.heads[s.ranging.pointer].skip = 0
    · rw [scanWalk_measures n s hmeasure.1 hmeasure.2]
      exact modHead_view hview _ _ _ fun h => ⟨_, rfl⟩
    · have hpassed : view (advancePointer (passed s)).ranging.heads[k] = view s.ranging.heads[k] := by
        rw [(advancePointer_ranging (passed s)).2]
        exact modHead_view hview s.ranging s.ranging.pointer k (f := fun h => { h with skip := _ })
          fun h => ⟨_, rfl⟩
      rw [scanWalk_passes n (by rwa [not_and_or, Bool.not_eq_true] at hmeasure)]
      split
      · exact hpassed
      · rw [ih, hpassed]

/-- A choice changes no more of a head than its skip counter. -/
theorem chooseNext_view (s : State) (k : Column) :
    view (chooseNext s).ranging.heads[k] = view s.ranging.heads[k] := by
  unfold chooseNext
  split
  · rfl
  · split
    · rfl
    · split
      · rfl
      · exact scanWalk_view hview 12 s k

end

section
variable (s : State) (c : Column)

/-! ### What the tracker makes of a result (R97, R99, R102) -/

theorem recomputeBand_modFill (f : Fill → Fill) :
    let new := nextBand s.profile.nearFull s.profile.full (f s.fills[c]).band (f s.fills[c]).estimate
    recomputeBand c (s.modFill c f) =
      { s with
        fills := s.fills.set c { f s.fills[c] with band := new },
        alerts := bandRaised (f s.fills[c]).band new c s.clock.reading s.alerts } := by
  simp only [recomputeBand_eq, State.modFill]
  simp

theorem raiseOverfill_eq (n : Nat) :
    raiseOverfill c n s =
      { s with
        alerts :=
          if n = 200 then s.alerts.raise .overfill (some c) s.clock.reading else s.alerts } := by
  unfold raiseOverfill
  split <;> rfl

theorem trackSuccess_eq (mm : Nat) :
    let fill := fillOf c mm s
    let new := nextBand s.profile.nearFull s.profile.full s.fills[c].band fill
    let banded := bandRaised s.fills[c].band new c s.clock.reading s.alerts
    trackSuccess c mm s =
      { s with
        fills := s.fills.set c { estimate := fill, since := 0, doubtful := false, band := new },
        alerts :=
          if fill = 200 then banded.raise .overfill (some c) s.clock.reading else banded } := by
  rw [trackSuccess, recomputeBand_modFill, raiseOverfill_eq]

theorem trackEmptied_eq :
    let new := nextBand s.profile.nearFull s.profile.full s.fills[c].band 0
    trackEmptied c s =
      { s with
        fills := s.fills.set c { s.fills[c] with estimate := 0, since := 0, band := new },
        alerts := bandRaised s.fills[c].band new c s.clock.reading s.alerts } :=
  recomputeBand_modFill s c _

theorem countFailure_eq :
    let fails := min 255 (s.ranging.heads[c].failures + 1)
    countFailure c s =
      { s with
        ranging := s.ranging.modHead c fun h => { h with failures := fails },
        fills := s.fills.set c
          { s.fills[c] with doubtful := s.fills[c].doubtful || decide (3 ≤ fails) },
        alerts :=
          if fails = 3 then s.alerts.raise .rangingFault (some c) s.clock.reading
          else s.alerts } := by
  simp only [countFailure]
  split <;> rfl

/-! ### What the round makes of an EMPTYING result (R124, R128) -/

theorem entryOf_modEntry {r : Round} {e : ManifestEntry} (h : r.entryOf c = some e)
    {f : ManifestEntry → ManifestEntry} (hf : ∀ x, (f x).column = x.column) :
    (r.modEntry c f).entryOf c = some (f e) := by
  have hcolumn : e.column = c := by simpa using List.find?_some h
  have hsame : ((fun e => decide (e.column = c)) ∘ fun e => if e.column = c then f e else e) =
      fun e => decide (e.column = c) := by
    funext x
    simp only [Function.comp]
    split <;> simp [hf]
  rw [Round.entryOf] at h
  rw [Round.entryOf, Round.modEntry, List.find?_map, hsame, h, Option.map_some, if_pos hcolumn]

/-- An append that does not bring the journal to its mark raises nothing. -/
theorem appendRecord_alerts (flags : RecordFlags) (period : BitVec 16) (body : RecordBody)
    (h : s.journal.records.length ≠ 1791) :
    (appendRecord c flags period body s).alerts = s.alerts := by
  have hmark : ¬s.journal.held + 1 = 1792 := by
    unfold Journal.held
    omega
  simp [appendRecord, hmark]

theorem roundMeasured_alerts (fill : Option Nat) (h : s.journal.records.length ≠ 1791) :
    (roundMeasured c fill s).alerts = s.alerts := by
  unfold roundMeasured
  split
  · simp only [reloadSupervision_frame, finishEntry]
    split
    · rfl
    · exact appendRecord_alerts _ c _ _ _ h
  · rfl

/-- The active entry in MEASURING becomes EMPTIED, with its record. -/
theorem roundMeasured_emptied {e : ManifestEntry} (fill : Option Nat)
    (he : s.round.entryOf c = some e) (hactive : e.status = .active)
    (hstage : s.round.stage = some .measuring) :
    let residue := fill.any fun n => decide (s.profile.nearFull ≤ n)
    let t := roundMeasured c fill s
    t.round.stage = none ∧ t.round.state = s.round.state ∧
      t.round.entryOf c = some
        { e with
          status := .done, outcome := some .emptied, failReason := none, fillAfter := fill,
          residue := residue } ∧
      t.journal.reservations = s.journal.reservations - 1 ∧
      t.journal.records = s.journal.records ++
        [{ seq := s.journal.nextSeq, column := c, time := s.clock.reading,
           flags := { timeUnset := !s.clock.timeSet, late := false, interrupted := false,
                      provisional := false, residue := residue, fillAfterPresent := fill.isSome },
           period := s.period,
           body := .emptying (s.round.id.getD 0) (s.round.vehicle.getD 0) .emptied none
             (e.fillBefore.getD s.fills[c].estimate) fill }] := by
  intro residue t
  have hcolumn : e.column = c := by simpa using List.find?_some he
  have hclaims : s.round.claims c = true := List.any_eq_true.mpr
    ⟨e, List.mem_of_find?_eq_some he, by simp [hcolumn, hactive]⟩
  have hin : s.round.inStage c .measuring = true := by simp [Round.inStage, hclaims, hstage]
  have ht : t = reloadSupervision (appendRecord c (emptyingFlags fill residue) s.period
      (emptyingBody s e .emptied none fill)
      { s with round :=
          (s.round.modEntry c (ManifestEntry.finish .emptied none fill residue)).endActive }) := by
    simp only [t, roundMeasured, if_pos hin, finishEntry, he, if_pos hactive, residue]
  rw [ht]
  simp only [reloadSupervision, appendRecord_frame, appendRecord_journal]
  refine ⟨rfl, rfl, ?_, rfl, ?_⟩
  · exact entryOf_modEntry c he (f := ManifestEntry.finish .emptied none fill residue) fun _ => rfl
  · simp only [Journal.append, stampRecord, emptyingBody, hcolumn]
    rfl

end

/-! ### The result handed on (R88) -/

/-- The fill that a burst's result shows, if it is a success (R124). -/
def measuredFill (c : Column) (s : State) : BurstResult → Option Nat
  | .success mm => some (fillOf c mm s)
  | .unstable | .noEcho => none

/-- The engine's record and the tracker have taken a burst's result, and the round has not yet. -/
def tracked (b : Burst) (r : BurstResult) (s : State) : State :=
  match r with
  | .success mm =>
    trackSuccess b.column mm (s.modHead b.column fun h =>
      { h with failures := 0, last := some { mm := mm, time := s.clock.reading } })
  | .unstable | .noEcho =>
    let s := countFailure b.column s
    if b.purpose = .emptying then trackEmptied b.column s else s

/-- A burst's result has been handed on, and the engine has not yet chosen. -/
def handedOn (b : Burst) (r : BurstResult) (s : State) : State :=
  if b.purpose = .emptying then roundMeasured b.column (measuredFill b.column s r) (tracked b r s)
  else tracked b r s

theorem finishBurst_eq (b : Burst) (s : State) :
    finishBurst b s =
      chooseNext (handedOn b (formResult s.profile.spreadTolerance b.results) (endBurst s)) := by
  unfold finishBurst handedOn
  cases formResult s.profile.spreadTolerance b.results with
  | success mm => simp only [handSuccess, tracked, measuredFill, fillOf, trackSuccess_frame, State.modHead_profile]
  | unstable => simp only [handFailure, tracked, measuredFill]; split <;> rfl
  | noEcho => simp only [handFailure, tracked, measuredFill]; split <;> rfl

section
variable (b : Burst) (r : BurstResult) (s : State)

theorem tracked_frame :
    (tracked b r s).clock = s.clock ∧ (tracked b r s).period = s.period ∧
      (tracked b r s).profile = s.profile ∧ (tracked b r s).sups = s.sups ∧
      (tracked b r s).access = s.access ∧ (tracked b r s).table = s.table ∧
      (tracked b r s).round = s.round ∧ (tracked b r s).journal = s.journal := by
  cases r <;> simp only [tracked]
  case success mm => simp
  all_goals split <;> simp

theorem tracked_other {k : Column} (h : k ≠ b.column) : (tracked b r s).fills[k] = s.fills[k] := by
  cases r <;> simp only [tracked]
  case success mm => exact trackSuccess_other _ _ mm h
  all_goals
    split
    · exact (trackEmptied_other _ _ h).trans (countFailure_other s _ h)
    · exact countFailure_other s _ h

theorem tracked_failed (h : ∀ mm, r ≠ .success mm) :
    tracked b r s =
      if b.purpose = .emptying then trackEmptied b.column (countFailure b.column s)
      else countFailure b.column s := by
  cases r with
  | success mm => exact absurd rfl (h mm)
  | unstable => rfl
  | noEcho => rfl

/-- The round and the journal are an EMPTYING burst's alone. -/
theorem handedOn_frame :
    (handedOn b r s).sups = s.sups ∧ (handedOn b r s).access = s.access ∧
      (handedOn b r s).table = s.table ∧ (handedOn b r s).fills = (tracked b r s).fills ∧
      (handedOn b r s).ranging = (tracked b r s).ranging := by
  obtain ⟨-, -, -, hsups, haccess, htable, -, -⟩ := tracked_frame b r s
  unfold handedOn
  split <;> simp [hsups, haccess, htable]

theorem handedOn_alerts (h : b.purpose ≠ .emptying ∨ s.journal.records.length ≠ 1791) :
    (handedOn b r s).alerts = (tracked b r s).alerts := by
  obtain ⟨-, -, -, -, -, -, -, hjournal⟩ := tracked_frame b r s
  unfold handedOn
  split
  · next hpurpose =>
    exact roundMeasured_alerts _ _ _ (hjournal ▸ h.resolve_left (not_not_intro hpurpose))
  · rfl

/-- A success resets the failures and replaces the distance, the estimate and the band (R88, R99). -/
theorem handedOn_success (mm : Nat) :
    let c := b.column
    let t := handedOn b (.success mm) s
    let fill := fillOf c mm s
    let new := nextBand s.profile.nearFull s.profile.full s.fills[c].band fill
    let banded := bandRaised s.fills[c].band new c s.clock.reading s.alerts
    t.ranging.heads[c].failures = 0 ∧
      t.ranging.heads[c].last = some { mm := mm, time := s.clock.reading } ∧
      t.fills[c] = { estimate := fill, since := 0, doubtful := false, band := new } ∧
      (b.purpose ≠ .emptying ∨ s.journal.records.length ≠ 1791 →
        t.alerts =
          if fill = 200 then banded.raise .overfill (some c) s.clock.reading else banded) := by
  intro c t fill new banded
  obtain ⟨-, -, -, hfills, hranging⟩ := handedOn_frame b (.success mm) s
  refine ⟨?_, ?_, ?_, fun h => (handedOn_alerts b (.success mm) s h).trans ?_⟩
  all_goals simp only [t, hfills, hranging, tracked, trackSuccess_eq, modHead_ranging]
  · simp [c]
  · simp [c]
  · simp [c, fill, new, fillOf]
  · rfl

/-- A failure is counted (R97). -/
theorem handedOn_failed_head (h : ∀ mm, r ≠ .success mm) :
    (handedOn b r s).ranging.heads[b.column] =
      { s.ranging.heads[b.column] with
        failures := min 255 (s.ranging.heads[b.column].failures + 1) } := by
  obtain ⟨-, -, -, -, hranging⟩ := handedOn_frame b r s
  rw [hranging, tracked_failed b r s h, countFailure_eq]
  split <;> simp

/-- A failure of a SCAN or FORCED burst makes the fill doubtful, with its alert at a count of 3 (R97,
R100). -/
theorem handedOn_failed (h : ∀ mm, r ≠ .success mm) (hpurpose : b.purpose ≠ .emptying) :
    let c := b.column
    let fails := min 255 (s.ranging.heads[c].failures + 1)
    (handedOn b r s).fills[c] =
        { s.fills[c] with doubtful := s.fills[c].doubtful || decide (3 ≤ fails) } ∧
      (handedOn b r s).alerts =
        if fails = 3 then s.alerts.raise .rangingFault (some c) s.clock.reading else s.alerts := by
  rw [handedOn, if_neg hpurpose, tracked_failed b r s h, if_neg hpurpose, countFailure_eq]
  exact ⟨by simp, rfl⟩

/-- A failure of an EMPTYING burst takes the container for tipped (R102). -/
theorem handedOn_failed_emptying (h : ∀ mm, r ≠ .success mm) (hpurpose : b.purpose = .emptying) :
    (handedOn b r s).fills[b.column] =
      { estimate := 0, since := 0,
        doubtful := s.fills[b.column].doubtful ||
          decide (3 ≤ min 255 (s.ranging.heads[b.column].failures + 1)),
        band := nextBand s.profile.nearFull s.profile.full s.fills[b.column].band 0 } := by
  obtain ⟨-, -, -, hfills, -⟩ := handedOn_frame b r s
  rw [hfills, tracked_failed b r s h, if_pos hpurpose, trackEmptied_eq, countFailure_eq]
  simp

/-- A SCAN or FORCED burst is nothing to the round. -/
theorem handedOn_scanned (hpurpose : b.purpose ≠ .emptying) :
    (handedOn b r s).round = s.round ∧ (handedOn b r s).journal = s.journal := by
  obtain ⟨-, -, -, -, -, -, hround, hjournal⟩ := tracked_frame b r s
  rw [handedOn, if_neg hpurpose]
  exact ⟨hround, hjournal⟩

/-- An EMPTYING burst ends the work of the active entry in MEASURING (R124, R128). -/
theorem handedOn_emptied {e : ManifestEntry} (hpurpose : b.purpose = .emptying)
    (he : s.round.entryOf b.column = some e) (hactive : e.status = .active)
    (hstage : s.round.stage = some .measuring) :
    let c := b.column
    let t := handedOn b r s
    let fill := measuredFill c s r
    let residue := fill.any fun n => decide (s.profile.nearFull ≤ n)
    t.round.stage = none ∧ t.round.state = s.round.state ∧
      t.round.entryOf c = some
        { e with
          status := .done, outcome := some .emptied, failReason := none, fillAfter := fill,
          residue := residue } ∧
      t.journal.reservations = s.journal.reservations - 1 ∧
      t.journal.records = s.journal.records ++
        [{ seq := s.journal.nextSeq, column := c, time := s.clock.reading,
           flags := { timeUnset := !s.clock.timeSet, late := false, interrupted := false,
                      provisional := false, residue := residue, fillAfterPresent := fill.isSome },
           period := s.period,
           body := .emptying (s.round.id.getD 0) (s.round.vehicle.getD 0) .emptied none
             (e.fillBefore.getD t.fills[c].estimate) fill }] := by
  obtain ⟨hclock, hperiod, hprofile, -, -, -, hround, hjournal⟩ := tracked_frame b r s
  have hdone := roundMeasured_emptied (tracked b r s) b.column (measuredFill b.column s r)
    (hround ▸ he) hactive (hround ▸ hstage)
  simp only [hclock, hperiod, hprofile, hround, hjournal] at hdone
  simp only [handedOn, if_pos hpurpose, roundMeasured_frame]
  exact hdone

end

/-! ### The third window (R87, R88) -/

theorem endBurst_keeps (s : State) :
    endBurst s = { s with ranging := (endBurst s).ranging } ∧
      (endBurst s).ranging.heads = s.ranging.heads := by
  unfold endBurst
  split
  · exact ⟨rfl, rfl⟩
  · dsimp only
    split
    · obtain ⟨hmoves, hheads⟩ :=
        advancePointer_ranging { s with ranging := { s.ranging with burst := none } }
      exact ⟨hmoves, hheads⟩
    · exact ⟨rfl, rfl⟩

/-- The third window hands the result on from a state that differs in the engine alone, its records
of the heads apart, and the engine, free again, chooses. -/
theorem closeWindow_last {b : Burst} (hlen : b.results.length = 2) (last : PingResult) (s : State) :
    ∃ r : Ranging,
      closeWindow b last s =
        chooseNext (handedOn b (formResult s.profile.spreadTolerance (b.results ++ [last]))
          { s with ranging := { r with heads := s.ranging.heads } }) := by
  have hthird : (b.results ++ [last]).length = 3 := by
    rw [List.length_append, List.length_singleton, hlen]
  let third : Burst := { b with window := none, results := b.results ++ [last] }
  let shut : State := { s with ranging := { s.ranging with burst := some third } }
  obtain ⟨hends, hheads⟩ := endBurst_keeps shut
  have hcloses : closeWindow b last s = finishBurst third shut := if_pos hthird
  have hheads : (endBurst shut).ranging.heads = s.ranging.heads := hheads
  refine ⟨(endBurst shut).ranging, ?_⟩
  rw [hcloses, finishBurst_eq, hends, ← hheads]
  rfl

/-- Settles O50: the third window hands the result on from a state that differs in the engine and the
moment alone, and the choice that follows changes no more of a head than its skip counter. -/
theorem burstResultHandedOn : Obligations.BurstResultHandedOn := by
  intro s b opened last hb hw hlen hlast run c p result fails fillOf'
  have hs : s.chosen := .inl (by rw [hb]; rfl)
  obtain ⟨moment, hrun⟩ : ∃ m, run = .next (closeWindow b last (reach m s)) := by
    rcases hlast with rfl | ⟨n, rfl, hn, h4000⟩
    · exact ⟨_, noEcho_heard hs hb hw⟩
    · exact ⟨_, echo_heard hs hb hw hn h4000⟩
  obtain ⟨r, hcloses⟩ := closeWindow_last hlen last (reach moment s)
  let shut : State := { reach moment s with ranging := { r with heads := s.ranging.heads } }
  let t : State := handedOn b result shut
  have hruns : run = .next (chooseNext t) := hrun.trans (congrArg _ hcloses)
  obtain ⟨hsups, haccess, htable, hfills, -⟩ := handedOn_frame b result shut
  have hfailures : (chooseNext t).ranging.heads[c].failures = t.ranging.heads[c].failures :=
    chooseNext_view (view := Head.failures) (fun _ _ => rfl) t c
  have hlastDistance : (chooseNext t).ranging.heads[c].last = t.ranging.heads[c].last :=
    chooseNext_view (view := Head.last) (fun _ _ => rfl) t c
  refine ⟨_, hruns, ?_⟩
  simp only [chooseNext_frame, hfailures, hlastDistance]
  refine ⟨hsups, haccess, htable, fun k hk => ?_, fun mm hmm => ?_, fun hfail => ⟨?_, ?_,
    handedOn_failed b result shut hfail, handedOn_failed_emptying b result shut hfail⟩,
    handedOn_scanned b result shut, fun e hpurpose hopen he hactive hstage => ?_⟩
  · simp only [t, hfills]
    exact tracked_other b result shut hk
  · simp only [t, hmm]
    exact handedOn_success b shut mm
  · exact (congrArg Head.failures (handedOn_failed_head b result shut hfail) :)
  · exact (congrArg Head.last (handedOn_failed_head b result shut hfail) :)
  · obtain ⟨hnone, hstate, hdone, hreserved, hrecord⟩ :=
      handedOn_emptied b result shut hpurpose he hactive hstage
    refine ⟨_, _, ?_, ?_, hnone, hstate.trans hopen, hdone, hreserved, hrecord⟩
    · cases result <;> rfl
    · cases result <;> rfl

end Sys2Proof.Proofs.RangingEngine
end

section
/-! Proofs, ManifestEntries: an entry of a manifest that lists no column twice, and what becomes of the round, the journal and the alerts when entries become DONE (R110, R111, R128, R147). -/

namespace Sys2Proof.Proofs.EmptyingRounds

open Sys2Proof Sys2Proof.Machine Sys2Proof.Proofs.AccessMachines

/-! ### Entries of a manifest (R110) -/

section
variable {r : Round} {e : ManifestEntry} {c : Column} {before after : List ManifestEntry}

theorem entryOf_mem (h : r.entryOf c = some e) : e ∈ r.manifest ∧ e.column = c :=
  ⟨List.mem_of_find?_eq_some h, by simpa using List.find?_some h⟩

theorem active_mem (h : r.active = some e) : e ∈ r.manifest ∧ e.status = .active :=
  ⟨List.mem_of_find?_eq_some h, by simpa using List.find?_some h⟩

theorem active_isSome_iff : r.active.isSome = true ↔ ∃ e ∈ r.manifest, e.status = .active := by
  simp [Round.active]

theorem claims_iff : r.claims c = true ↔ ∃ e ∈ r.manifest, e.column = c ∧ e.status = .active := by
  simp [Round.claims]

/-- Where no column is listed twice, the entries beside one of them are of other columns. -/
theorem columns_beside (hn : (r.manifest.map (·.column)).Nodup)
    (hm : r.manifest = before ++ e :: after) : ∀ x ∈ before ++ after, x.column ≠ e.column := by
  rw [hm, List.map_append, List.map_cons, List.nodup_middle, ← List.map_append] at hn
  exact fun x hx hcolumn => (List.nodup_cons.mp hn).1 (List.mem_map.mpr ⟨x, hx, hcolumn⟩)

/-- Where no column is listed twice, a change of a column's entry changes one place of the manifest. -/
theorem modEntry_split (hn : (r.manifest.map (·.column)).Nodup)
    (hm : r.manifest = before ++ e :: after) (f : ManifestEntry → ManifestEntry) :
    (r.modEntry e.column f).manifest = before ++ f e :: after := by
  have others := columns_beside hn hm
  have keeps (l : List ManifestEntry) (hl : ∀ x ∈ l, x.column ≠ e.column) :
      (l.map fun x => if x.column = e.column then f x else x) = l :=
    (List.map_congr_left fun x hx => if_neg (hl x hx)).trans (List.map_id l)
  rw [Round.modEntry, hm, List.map_append, List.map_cons, if_pos rfl,
    keeps before fun x hx => others x (List.mem_append_left _ hx),
    keeps after fun x hx => others x (List.mem_append_right _ hx)]

/-- Where no column is listed twice, a listed entry is its column's. -/
theorem entryOf_listed (hn : (r.manifest.map (·.column)).Nodup) (he : e ∈ r.manifest) :
    r.entryOf e.column = some e := by
  cases h : r.entryOf e.column with
  | none => exact absurd (decide_eq_true rfl) (List.find?_eq_none.mp h e he)
  | some d =>
    obtain ⟨hd, hcolumn⟩ := entryOf_mem h
    rw [List.inj_on_of_nodup_map hn hd he hcolumn]

end

/-! ### One entry becomes DONE (R111, R128, R147) -/

/-- The record of an entry that becomes DONE (R128). -/
def emptyingRecord (s : State) (e : ManifestEntry) (o : EntryOutcome) (f : Option FailReason)
    (a : Option Nat) (residue : Bool) : Record :=
  stampRecord e.column (emptyingFlags a residue) s.period (emptyingBody s e o f a) s

/-- The appends of `n` records bring the journal to its armed high mark (R147). -/
def reachesHigh (j : Journal) (n : Nat) : Bool :=
  j.highArmed && decide (j.records.length < 1792) && decide (1792 ≤ j.records.length + n)

/-- The alerts once JOURNAL HIGH has been raised, if it is (R147). -/
def alertsAfter (s : State) (n : Nat) : AlertList :=
  if reachesHigh s.journal n then s.alerts.raise .journalHigh none s.clock.reading else s.alerts

/-- The round after the entry of a column has been made DONE. -/
def finishOne (e : ManifestEntry) (g : ManifestEntry → ManifestEntry) (r : Round) : Round :=
  let r' := r.modEntry e.column g
  if e.status = .active then r'.endActive else r'

/-- The column's entry is changed, and of the rest of the round only what the active entry's work holds. -/
theorem finishOne_frame (e : ManifestEntry) (g : ManifestEntry → ManifestEntry) (r : Round) :
    (finishOne e g r).manifest = (r.modEntry e.column g).manifest ∧
      (finishOne e g r).state = r.state ∧ (finishOne e g r).id = r.id ∧
      (finishOne e g r).vehicle = r.vehicle := by
  unfold finishOne
  dsimp only
  split <;> exact ⟨rfl, rfl, rfl, rfl⟩

/-- An entry that becomes DONE changes the round, the journal and the alerts. -/
theorem finishEntry_eq {s : State} {c : Column} {e : ManifestEntry} (h : s.round.entryOf c = some e)
    (o : EntryOutcome) (f : Option FailReason) (a : Option Nat) (residue : Bool) :
    finishEntry c o f a residue s =
      { s with
        round := finishOne e (.finish o f a residue) s.round,
        journal := s.journal.append (emptyingRecord s e o f a residue) (reachesHigh s.journal 1),
        alerts := alertsAfter s 1 } := by
  have hcolumn : e.column = c := (entryOf_mem h).2
  have hhigh : (decide (s.journal.held + 1 = 1792) && s.journal.highArmed) =
      reachesHigh s.journal 1 := by
    have hmark : s.journal.records.length + 1 = 1792 ↔
        s.journal.records.length < 1792 ∧ 1792 ≤ s.journal.records.length + 1 := by omega
    rw [reachesHigh, Journal.held, decide_eq_decide.mpr hmark, Bool.decide_and, Bool.and_comm,
      Bool.and_assoc]
  subst hcolumn
  simp only [finishEntry, h, appendRecord, hhigh, alertsAfter, finishOne]
  split <;> rfl

/-! ### Entries become DONE in manifest order (R115, R130, R132) -/

/-- The entries of some statuses, in manifest order. -/
def entriesWith (p : EntryStatus → Bool) (r : Round) : List ManifestEntry :=
  r.manifest.filter fun e => p e.status

/-- An entry made DONE if its status is one of some. -/
def finishIf (p : EntryStatus → Bool) (o : EntryOutcome) (e : ManifestEntry) : ManifestEntry :=
  if p e.status then e.finish o none none false else e

/-- The round after the entries of some statuses have been made DONE. -/
def finishWhere (p : EntryStatus → Bool) (o : EntryOutcome) (r : Round) : Round :=
  let r' := { r with manifest := r.manifest.map (finishIf p o) }
  if p EntryStatus.active && r.active.isSome then r'.endActive else r'

/-- The entries are finished, and of the rest of the round only what the active entry's work holds. -/
theorem finishWhere_frame (p : EntryStatus → Bool) (o : EntryOutcome) (r : Round) :
    (finishWhere p o r).manifest = r.manifest.map (finishIf p o) ∧
      (finishWhere p o r).state = r.state := by
  unfold finishWhere
  dsimp only
  split <;> exact ⟨rfl, rfl⟩

/-- The journal after the records of entries that become DONE have joined it in order (R128). -/
def journalAfter (s : State) (o : EntryOutcome) (es : List ManifestEntry) : Journal :=
  { s.journal with
    records := s.journal.records ++ es.mapIdx fun i e =>
      { emptyingRecord s e o none none false with seq := s.journal.nextSeq + BitVec.ofNat 32 i },
    reservations := s.journal.reservations - es.length,
    nextSeq := s.journal.nextSeq + BitVec.ofNat 32 es.length,
    highArmed := s.journal.highArmed && !reachesHigh s.journal es.length }

/-- The part after the entries of some statuses have been made DONE. -/
def finishedWhere (p : EntryStatus → Bool) (o : EntryOutcome) (s : State) : State :=
  { s with
    round := finishWhere p o s.round,
    journal := journalAfter s o (entriesWith p s.round),
    alerts := alertsAfter s (entriesWith p s.round).length }

section
variable {p : EntryStatus → Bool} {o : EntryOutcome} {s : State} {e : ManifestEntry}

/-- Entries finished in every status but DONE are DONE. -/
theorem finishIf_done (hall : e.status ≠ .done → p e.status = true) :
    (finishIf p o e).status = .done := by
  unfold finishIf
  split
  · rfl
  case isFalse h => exact not_not.mp fun hne => h (hall hne)

theorem map_finishIf_others {l : List ManifestEntry} (h : ∀ e ∈ l, ¬p e.status = true) :
    l.map (finishIf p o) = l :=
  (List.map_congr_left fun e he => if_neg (h e he)).trans (List.map_id l)

/-- Appends that come after another reach the mark unless it has been reached before. -/
theorem reachesHigh_append (j : Journal) (r : Record) (n : Nat) :
    reachesHigh (j.append r (reachesHigh j 1)) n = (!reachesHigh j 1 && reachesHigh j (n + 1)) ∧
      (reachesHigh j 1 = true → reachesHigh j (n + 1) = true) := by
  unfold reachesHigh Journal.append
  cases j.highArmed with
  | false => simp
  | true =>
    rw [Bool.eq_iff_iff]
    simp only [Bool.true_and, List.length_append, List.length_singleton, Bool.and_eq_true,
      Bool.not_eq_true', Bool.and_eq_false_iff, decide_eq_true_eq, decide_eq_false_iff_not]
    omega

/-- With no such entry the part stays. -/
theorem finishedWhere_none (h : entriesWith p s.round = []) : finishedWhere p o s = s := by
  have hnone : ∀ e ∈ s.round.manifest, ¬p e.status = true := List.filter_eq_nil_iff.mp h
  have hactive : ¬(p .active && s.round.active.isSome) = true := by
    rw [Bool.and_eq_true, active_isSome_iff]
    rintro ⟨hp, e, he, hstatus⟩
    exact hnone e he (hstatus ▸ hp)
  have hhigh : reachesHigh s.journal 0 = false := by
    rw [Bool.eq_false_iff]
    simp only [reachesHigh, ne_eq, Bool.and_eq_true, decide_eq_true_eq]
    omega
  simp [finishedWhere, finishWhere, map_finishIf_others hnone, hactive, h, journalAfter,
    alertsAfter, hhigh]

/-- The first of the entries made DONE leaves the rest of the round to be finished. -/
theorem finishWhere_first {r : Round} {before after : List ManifestEntry} (hdone : p .done = false)
    (hn : (r.manifest.map (·.column)).Nodup) (hm : r.manifest = before ++ e :: after)
    (he : p e.status = true) :
    finishWhere p o (finishOne e (.finish o none none false) r) = finishWhere p o r := by
  have hmanifest : (finishOne e (.finish o none none false) r).manifest =
      before ++ e.finish o none none false :: after :=
    (finishOne_frame e _ r).1.trans (modEntry_split hn hm _)
  have hmap : (finishOne e (.finish o none none false) r).manifest.map (finishIf p o) =
      r.manifest.map (finishIf p o) := by
    have hfinished : finishIf p o (e.finish o none none false) = e.finish o none none false :=
      if_neg (ne_true_of_eq_false hdone)
    have hfinish : finishIf p o e = e.finish o none none false := if_pos he
    rw [hmanifest, hm]
    simp only [List.map_append, List.map_cons, hfinished, hfinish]
  by_cases hactive : e.status = .active
  · have hended : (p .active && r.active.isSome) = true := by
      rw [Bool.and_eq_true, active_isSome_iff]
      exact ⟨hactive ▸ he, e, by simp [hm], hactive⟩
    simp only [finishWhere, hmap, hended, if_true]
    simp only [finishOne, if_pos hactive]
    split <;> rfl
  · have hsame : (finishOne e (.finish o none none false) r).active.isSome = r.active.isSome := by
      simp [Round.active, hmanifest, hm, List.find?_append, hactive, ManifestEntry.finish]
    simp only [finishWhere, hmap, hsame]
    simp only [finishOne, if_neg hactive]
    split <;> rfl

section
variable {before after : List ManifestEntry}

/-- The entries left once the first has been made DONE. -/
theorem entriesWith_first (hdone : p .done = false)
    (hn : (s.round.manifest.map (·.column)).Nodup) (hm : s.round.manifest = before ++ e :: after)
    (hbefore : ∀ x ∈ before, ¬p x.status = true) (he : p e.status = true) :
    entriesWith p s.round =
      e :: entriesWith p (finishEntry e.column o none none false s).round := by
  have hnone : before.filter (fun x => p x.status) = [] := List.filter_eq_nil_iff.mpr hbefore
  have hmanifest := (finishOne_frame e (.finish o none none false) s.round).1
  rw [modEntry_split hn hm] at hmanifest
  rw [finishEntry_eq (entryOf_listed hn (by simp [hm]))]
  simp [entriesWith, hmanifest, hm, hnone, he, hdone, ManifestEntry.finish]

/-- The first of the entries made DONE leaves the rest of the part to be finished. -/
theorem finishedWhere_first (hdone : p .done = false)
    (hn : (s.round.manifest.map (·.column)).Nodup) (hm : s.round.manifest = before ++ e :: after)
    (hbefore : ∀ x ∈ before, ¬p x.status = true) (he : p e.status = true) :
    finishedWhere p o (finishEntry e.column o none none false s) = finishedWhere p o s := by
  have hlisted : s.round.entryOf e.column = some e := entryOf_listed hn (by simp [hm])
  have hentries := entriesWith_first (o := o) hdone hn hm hbefore he
  have hround := finishWhere_first (o := o) hdone hn hm he
  obtain ⟨-, -, hid, hvehicle⟩ := finishOne_frame e (.finish o none none false) s.round
  rw [finishEntry_eq hlisted] at hentries ⊢
  simp only [finishedWhere, hround, hentries]
  generalize entriesWith p (finishOne e (.finish o none none false) s.round) = rest
  obtain ⟨hlater, hearlier⟩ :=
    reachesHigh_append s.journal (emptyingRecord s e o none none false) rest.length
  have hseq (i : Nat) : s.journal.nextSeq + BitVec.ofNat 32 (i + 1) =
      s.journal.nextSeq + 1 + BitVec.ofNat 32 i := by
    rw [Nat.add_comm i, BitVec.ofNat_add, BitVec.add_assoc]
    rfl
  have harmed : (s.journal.highArmed && !reachesHigh s.journal 1 &&
      !(!reachesHigh s.journal 1 && reachesHigh s.journal (rest.length + 1))) =
      (s.journal.highArmed && !reachesHigh s.journal (rest.length + 1)) := by
    cases hfirst : reachesHigh s.journal 1 <;> simp_all
  congr 1
  · simp only [journalAfter, hlater, List.length_cons, List.mapIdx_cons]
    simp only [Journal.append, emptyingRecord, emptyingBody, stampRecord, hid, hvehicle]
    simp only [hseq, BitVec.add_zero, List.append_assoc, List.singleton_append, Nat.sub_sub,
      Nat.add_comm 1, harmed]
  · simp only [alertsAfter, hlater, List.length_cons]
    cases hfirst : reachesHigh s.journal 1 <;> simp_all

end

/-- Entries made DONE in manifest order, all at once. -/
theorem finishAll_eq (hdone : p .done = false) (hn : (s.round.manifest.map (·.column)).Nodup) :
    finishAll o (s.round.columnsWith p) s = finishedWhere p o s := by
  have hcolumns (r : Round) : r.columnsWith p = (entriesWith p r).map (·.column) := rfl
  generalize hes : entriesWith p s.round = es
  rw [hcolumns, hes]
  induction es generalizing s with
  | nil => rw [finishedWhere_none hes]; rfl
  | cons e es ih =>
    obtain ⟨before, after, hm, hbefore, he, -⟩ := List.filter_eq_cons_iff.mp hes
    have hrest := entriesWith_first (o := o) hdone hn hm hbefore he
    rw [hes, List.cons.injEq] at hrest
    rw [← finishedWhere_first hdone hn hm hbefore he]
    exact ih (by rwa [finishEntry_columns]) hrest.2.symm

end
end Sys2Proof.Proofs.EmptyingRounds
end

section
/-! Proofs, JournalBooks: what the laws of the manifest and of the journal's count read of the part, and the changes that keep them (R111, R139, R140 to R142). -/

namespace Sys2Proof.Proofs.EmptyingRounds

open Sys2Proof Sys2Proof.Machine Sys2Proof.Proofs.AccessMachines

/-- What the two laws read: the manifest, the columns whose grants hold a reservation, and the counts. -/
@[ext] structure Books where
  state : RoundState
  manifest : List ManifestEntry
  holding : Column → Bool
  reservations : Nat
  held : Nat

/-- A machine whose grant holds a reservation (07 7.3). -/
def holdsGrant (a : Access) : Bool := a.context.isSome && a.state.inGrant

/-- The books of the part as it stands. -/
def books (s : State) : Books :=
  { state := s.round.state, manifest := s.round.manifest,
    holding := fun c => holdsGrant s.access[c], reservations := s.journal.reservations,
    held := s.journal.held }

namespace Books

/-- The manifest's law (R111). -/
def Orderly (b : Books) : Prop :=
  (b.manifest.map (·.column)).Nodup ∧
    (b.manifest.filter fun e => decide (e.status = .active)).length ≤ 1 ∧
    (b.state ≠ .open → ∀ e ∈ b.manifest, e.status = .done)

/-- The reservations that grants hold. -/
def granted (b : Books) : Nat := (allColumns.filter b.holding).length

/-- The entries not yet DONE among some. -/
def unfinished (l : List ManifestEntry) : Nat := (l.filter fun e => decide (e.status ≠ .done)).length

/-- The count of reservations, and the room (R139). -/
def Counted (b : Books) : Prop :=
  b.reservations = b.granted + unfinished b.manifest ∧ b.held + b.reservations ≤ 2048

/-- Under the manifest's law a change keeps that law and the count. -/
def Kept (b b' : Books) : Prop := b.Orderly → b'.Orderly ∧ (b.Counted → b'.Counted)

end Books

theorem roundLaw_iff (s : State) : RoundLaw s ↔ (books s).Orderly := Iff.rfl

theorem journalLaw_iff (s : State) : JournalLaw s ↔ (books s).Orderly ∧ (books s).Counted := Iff.rfl

namespace Books

theorem Kept.refl (b : Books) : Kept b b := fun h => ⟨h, id⟩

theorem Kept.of_eq {b b' : Books} (h : b' = b) : Kept b b' := h ▸ .refl b

theorem Kept.trans {b b' b'' : Books} (h : Kept b b') (h' : Kept b' b'') : Kept b b'' := fun ho =>
  have ⟨ho', hc⟩ := h ho
  have ⟨ho'', hc'⟩ := h' ho'
  ⟨ho'', hc' ∘ hc⟩

/-! ### Grants (R140 to R142) -/

section
variable (b : Books) (c : Column)

/-- One column's grant is the one to hold a reservation, or no longer. -/
def setHolding (h : Bool) : Books := { b with holding := Function.update b.holding c h }

/-- A reservation given up. -/
def release : Books := { b with reservations := b.reservations - 1 }

/-- A record appended into a reservation. -/
def record : Books := { b with reservations := b.reservations - 1, held := b.held + 1 }

@[simp] theorem setHolding_setHolding (h h' : Bool) :
    (b.setHolding c h).setHolding c h' = b.setHolding c h' := by
  simp [setHolding]

/-- A column held as it stands. -/
theorem setHolding_same {h : Bool} (heq : b.holding c = h) : b.setHolding c h = b := by
  simp [setHolding, ← heq]

/-- The columns that hold beside one. -/
def grantedOthers : Nat := ((allColumns.erase c).filter b.holding).length

theorem granted_eq : b.granted = (if b.holding c then 1 else 0) + b.grantedOthers c := by
  have hperm : allColumns.Perm (c :: allColumns.erase c) :=
    List.perm_cons_erase (by revert c; decide)
  rw [granted, (hperm.filter b.holding).length_eq, List.filter_cons, grantedOthers]
  split <;> simp [Nat.add_comm]

theorem setHolding_granted (h : Bool) :
    (b.setHolding c h).granted = (if h then 1 else 0) + b.grantedOthers c := by
  have hothers : (b.setHolding c h).grantedOthers c = b.grantedOthers c := by
    refine congrArg List.length (List.filter_congr fun k hk => ?_)
    have hne : k ≠ c := fun heq => by
      rw [heq, List.Nodup.mem_erase_iff (by decide)] at hk
      exact hk.1 rfl
    simp [setHolding, hne]
  rw [granted_eq _ c, hothers]
  simp [setHolding]

/-- A grant takes its reservation (R140). -/
theorem kept_grant (hfree : b.holding c = false) (hroom : b.held + b.reservations < 2048) :
    Kept b { b.setHolding c true with reservations := b.reservations + 1 } := by
  refine fun ho => ⟨ho, fun ⟨hcount, _⟩ => ⟨?_, ?_⟩⟩
  · have hafter := b.setHolding_granted c true
    have hbefore := b.granted_eq c
    simp only [hfree, Bool.false_eq_true, if_false, if_true] at hafter hbefore
    show b.reservations + 1 = (b.setHolding c true).granted + unfinished b.manifest
    omega
  · show b.held + (b.reservations + 1) ≤ 2048
    omega

/-- A grant ends and its reservation with it; at most one record joins the journal. -/
theorem kept_ungrant {n : Nat} (hheld : b.holding c = true) (hn : n ≤ b.held + 1) :
    Kept b
      (setHolding { b with reservations := b.reservations - 1, held := n } c false) := by
  have hafter := b.setHolding_granted c false
  have hbefore := b.granted_eq c
  simp only [hheld, Bool.false_eq_true, if_false, if_true] at hafter hbefore
  refine fun ho => ⟨ho, fun ⟨hcount, hroom⟩ => ⟨?_, ?_⟩⟩
  · show b.reservations - 1 = (b.setHolding c false).granted + unfinished b.manifest
    omega
  · show n + (b.reservations - 1) ≤ 2048
    omega

/-- A grant ends with its reservation released (R142). -/
theorem kept_release (hheld : b.holding c = true) : Kept b (b.release.setHolding c false) :=
  kept_ungrant b c hheld (Nat.le_succ _)

/-- A grant ends with its record (R141). -/
theorem kept_record (hheld : b.holding c = true) : Kept b (b.record.setHolding c false) :=
  kept_ungrant b c hheld le_rfl

end

/-! ### Entries (R111) -/

section
variable {b : Books} {e d : ManifestEntry} {before after : List ManifestEntry}

theorem unfinished_split (l k : List ManifestEntry) (e : ManifestEntry) :
    unfinished (l ++ e :: k) = unfinished l + (if e.status = .done then 0 else 1) + unfinished k := by
  simp only [unfinished, List.filter_append, List.filter_cons, List.length_append]
  by_cases h : e.status = .done
  · simp [h]
  · simp [h]; omega

/-- An entry not DONE stands in the manifest of an OPEN round only. -/
theorem Orderly.open_of (ho : b.Orderly) (hm : b.manifest = before ++ e :: after)
    (he : e.status ≠ .done) : b.state = .open := by
  by_contra hne
  exact he (ho.2.2 hne e (by simp [hm]))

/-- An entry becomes DONE with its record (R111). -/
theorem kept_finish (hm : b.manifest = before ++ e :: after) (he : e.status ≠ .done)
    (hcolumn : d.column = e.column) (hd : d.status = .done) :
    Kept b { b.record with manifest := before ++ d :: after } := by
  intro ho
  have hopen := ho.open_of hm he
  obtain ⟨hn, hone, -⟩ := ho
  rw [hm] at hn hone
  refine ⟨⟨by simpa [hcolumn] using hn, ?_, fun hne => absurd hopen hne⟩, fun ⟨hcount, hroom⟩ => ?_⟩
  · show ((before ++ d :: after).filter fun x => decide (x.status = .active)).length ≤ 1
    have hinactive : ¬d.status = .active := by simp [hd]
    rw [List.filter_append, List.filter_cons_of_neg (by simpa using hinactive), ← List.filter_append]
    have hfewer : (before ++ after).Sublist (before ++ e :: after) :=
      List.Sublist.append_left (List.sublist_cons_self e after) before
    exact (hfewer.filter _).length_le.trans hone
  · rw [hm, unfinished_split, if_neg he] at hcount
    refine ⟨?_, ?_⟩
    · show b.reservations - 1 = b.granted + unfinished (before ++ d :: after)
      rw [unfinished_split, if_pos hd]
      omega
    · show b.held + 1 + (b.reservations - 1) ≤ 2048
      omega

/-- A PENDING entry becomes the active one (R118). -/
theorem kept_claim (hm : b.manifest = before ++ e :: after) (he : e.status ≠ .done)
    (hcolumn : d.column = e.column) (hd : d.status = .active)
    (hnone : ∀ x ∈ b.manifest, x.status ≠ .active) :
    Kept b { b with manifest := before ++ d :: after } := by
  intro ho
  have hopen := ho.open_of hm he
  rw [hm] at hnone
  have inactive (l : List ManifestEntry) (hl : ∀ x ∈ l, x ∈ before ++ e :: after) :
      l.filter (fun x => decide (x.status = .active)) = [] :=
    List.filter_eq_nil_iff.mpr fun x hx => by simpa using hnone x (hl x hx)
  refine ⟨⟨by simpa [hm, hcolumn] using ho.1, ?_, fun hne => absurd hopen hne⟩,
    fun ⟨hcount, hroom⟩ => ⟨?_, hroom⟩⟩
  · simp [List.filter_append, hd, inactive before (by simp_all), inactive after (by simp_all)]
  · show b.reservations = b.granted + unfinished (before ++ d :: after)
    rw [hcount, hm, unfinished_split, unfinished_split, if_neg he, if_neg (by simp [hd])]

/-- A new manifest of PENDING entries takes a reservation for each (R112, R140). -/
theorem kept_open {cols : List Column} (hclosed : b.state ≠ .open) (hn : cols.Nodup)
    (hroom : b.held + b.reservations + cols.length ≤ 2048) :
    Kept b
      { b with state := .open, manifest := cols.map ManifestEntry.new,
               reservations := b.reservations + cols.length } := by
  intro ho
  have hdone : unfinished b.manifest = 0 := by
    simpa [unfinished] using ho.2.2 hclosed
  have hnew : unfinished (cols.map ManifestEntry.new) = cols.length := by
    simp [unfinished, List.filter_map, Function.comp_def, ManifestEntry.new]
  have hactive : (cols.map ManifestEntry.new).filter (fun e => decide (e.status = .active)) = [] := by
    simp [List.filter_map, Function.comp_def, ManifestEntry.new]
  have hcolumns : (cols.map ManifestEntry.new).map (·.column) = cols := by
    simp [ManifestEntry.new, Function.comp_def]
  refine ⟨⟨by rwa [hcolumns], by simp [hactive], fun hne => absurd rfl hne⟩, fun ⟨hcount, _⟩ => ⟨?_, ?_⟩⟩
  · show b.reservations + cols.length = b.granted + unfinished (cols.map ManifestEntry.new)
    omega
  · show b.held + (b.reservations + cols.length) ≤ 2048
    omega

/-- The round leaves OPEN with every entry DONE (R111). -/
theorem kept_leave (st : RoundState) (hdone : ∀ e ∈ b.manifest, e.status = .done) :
    Kept b { b with state := st } := fun ⟨hn, hone, _⟩ =>
  ⟨⟨hn, hone, fun _ => hdone⟩, id⟩

/-- Records released from the journal's head (R146). -/
theorem kept_drop {n : Nat} (h : n ≤ b.held) : Kept b { b with held := n } := fun ho =>
  ⟨ho, fun ⟨hcount, hroom⟩ => ⟨hcount, (Nat.add_le_add_right h _).trans hroom⟩⟩

end

end Books

end Sys2Proof.Proofs.EmptyingRounds
end

section
/-! Proofs, BookOperations: what each shared operation makes of the books; an operation that is not named here leaves them as they are (R64 to R84, R111, R118 to R130). -/

namespace Sys2Proof.Proofs.EmptyingRounds

open Sys2Proof Sys2Proof.Machine Sys2Proof.Proofs.AccessMachines

/-- What becomes of the books from one state of the part to another. -/
abbrev KeepsBooks (s t : State) : Prop := Books.Kept (books s) (books t)

section
variable {s t u : State}

theorem books_eq (hround : t.round = s.round) (haccess : t.access = s.access)
    (hjournal : t.journal = s.journal) : books t = books s := by
  simp only [books, hround, haccess, hjournal]

/-- An operation that touches neither the round nor a machine nor the journal keeps the books. -/
theorem keepsBooks_of_frame (hround : t.round = s.round) (haccess : t.access = s.access)
    (hjournal : t.journal = s.journal) : KeepsBooks s t :=
  .of_eq (books_eq hround haccess hjournal)

end

section
variable (s : State) (c : Column)

@[simp] theorem books_chooseNext : books (chooseNext s) = books s := by simp [books]
@[simp] theorem books_abandonBurst : books (abandonBurst c s) = books s := by simp [books]
@[simp] theorem books_modSup (f : Supervisor → Supervisor) : books (s.modSup c f) = books s := rfl
@[simp] theorem books_withdrawPermit : books (withdrawPermit c s) = books s := rfl
@[simp] theorem books_takeFault (r : Reason) : books (takeFault c r s) = books s := by simp [books]
@[simp] theorem books_homeRequest : books (homeRequest c s) = books s := by simp [books]
@[simp] theorem books_reloadSupervision : books (reloadSupervision s) = books s := rfl
@[simp] theorem books_setStage (st : Stage) : books (setStage st s) = books s := rfl

/-! ### A machine (R57, R77) -/

variable {s c} in
theorem holding_free (h : s.access[c].context = none ∨ s.access[c].state.inGrant = false) :
    (books s).holding c = false := by
  show (s.access[c].context.isSome && s.access[c].state.inGrant) = false
  rcases h with h | h <;> simp only [h, Option.isSome_none, Bool.false_and, Bool.and_false]

variable {s c} in
theorem holding_granted {g : GrantContext} (hg : s.access[c].context = some g)
    (h : s.access[c].state.inGrant = true) : (books s).holding c = true := by
  show (s.access[c].context.isSome && s.access[c].state.inGrant) = true
  simp only [hg, h, Option.isSome_some, Bool.and_self]

theorem books_modAccess (f : Access → Access) :
    books (s.modAccess c f) = (books s).setHolding c (holdsGrant (f s.access[c])) := by
  have hholding : (books (s.modAccess c f)).holding =
      Function.update (books s).holding c (holdsGrant (f s.access[c])) := by
    funext k
    by_cases hk : k = c
    · subst hk; simp [books]
    · simp [books, hk, State.modAccess_other s c f hk]
  exact congrArg (fun h => ({ books s with holding := h } : Books)) hholding

theorem books_modAccess_same (f : Access → Access)
    (h : holdsGrant (f s.access[c]) = holdsGrant s.access[c]) : books (s.modAccess c f) = books s := by
  rw [books_modAccess, h]
  exact Books.setHolding_same _ c rfl

@[simp] theorem books_arriveLocked : books (arriveLocked c s) = (books s).setHolding c false :=
  books_modAccess s c _

@[simp] theorem books_goHoming : books (goHoming c s) = (books s).setHolding c false := by
  have haway : books ((homeRequest c s).modAccess c fun a =>
      { a with state := .homing, grantTimer := none, openTimer := none }) =
      (books s).setHolding c false := by
    rw [books_modAccess, books_homeRequest]
    simp [holdsGrant, AccessState.inGrant]
  simp only [goHoming]
  split
  · rw [books_arriveLocked, haway, Books.setHolding_setHolding]
  · exact haway

/-- A verdict counts as a denial at most. -/
theorem sendVerdict_machine (v : VerdictCode) (m : Option Nat) (r : Option Column) :
    ∃ n, (sendVerdict c v m r s).access[c] = { s.access[c] with denials := n } := by
  simp only [sendVerdict]
  split
  · exact ⟨s.access[c].denials, by simp⟩
  · exact ⟨s.access[c].denials, by simp⟩
  · exact ⟨_, by simp; rfl⟩

@[simp] theorem books_sendVerdict (v : VerdictCode) (m : Option Nat) (r : Option Column) :
    books (sendVerdict c v m r s) = books s := by
  have hand (w : Verdict) (u : State) : books (handVerdict w u) = books u := by simp [books]
  unfold sendVerdict
  dsimp only
  rw [hand]
  split
  · rfl
  · rfl
  · exact books_modAccess_same s c _ rfl

/-! ### A grant that ends (R53, R70, R72, R74, R75) -/

/-- A grant not yet opened gives up its reservation as its machine leaves it. -/
theorem undoGrant_kept (h : s.access[c].state.inGrant = true) :
    Books.Kept (books s) ((books (undoGrant c s)).setHolding c false) := by
  cases hg : s.access[c].context with
  | none =>
    rw [undoGrant, hg, Books.setHolding_same _ c (holding_free (.inl hg))]
    exact .refl _
  | some g =>
    rw [undoGrant_eq s c hg]
    exact Books.kept_release _ c (holding_granted hg h)

theorem cutGrant_kept (v : VerdictCode) (h : s.access[c].state.inGrant = true) :
    KeepsBooks s (cutGrant c v s) := by
  obtain ⟨n, hmachine⟩ := sendVerdict_machine s c v none none
  have hundo := undoGrant_kept (sendVerdict c v none none s) c (by rw [hmachine]; exact h)
  rw [books_sendVerdict] at hundo
  rw [KeepsBooks, cutGrant, books_goHoming]
  exact hundo

theorem releaseFailed_kept (h : s.access[c].state.inGrant = true) :
    KeepsBooks s (releaseFailed c s) := by
  obtain ⟨n, hmachine⟩ := sendVerdict_machine s c .fault none none
  have hundo := undoGrant_kept (sendVerdict c .fault none none s) c (by rw [hmachine]; exact h)
  rw [books_sendVerdict] at hundo
  rw [KeepsBooks, releaseFailed, books_modAccess_same _ c _ rfl, books_arriveLocked]
  exact hundo

theorem books_appendRecord (flags : RecordFlags) (period : BitVec 16) (body : RecordBody) :
    books (appendRecord c flags period body s) = (books s).record := by
  simp [books, Books.record, appendRecord_journal, Journal.append, Journal.held]

/-- An opening under a grant settled takes the grant's reservation. -/
theorem books_settleOpened (g : GrantContext) (interrupted increment : Bool) :
    books (settleOpened c g interrupted increment s) = (books s).record := by
  have huse (u : State) : books (countUse g u) = books u := rfl
  have hdeposit : books (if increment then trackDeposit c s else s) = books s := by
    split
    · simp [books]
    · rfl
  unfold settleOpened
  split
  · rw [huse, appendServiceOpen, books_appendRecord]
  · dsimp only
    rw [countInsertion, books_modAccess_same _ c _ rfl, huse, appendInsertion, books_appendRecord,
      hdeposit]

/-- An open machine goes homing, its grant settled. -/
theorem closing_kept {g : GrantContext} (hstate : s.access[c].state = .open)
    (hg : s.access[c].context = some g) (interrupted increment : Bool) :
    Books.Kept (books s)
      ((books (settleOpened c g interrupted increment s)).setHolding c false) := by
  rw [books_settleOpened]
  exact Books.kept_record _ c (holding_granted hg (by rw [hstate]; rfl))

/-- A machine without a grant goes homing. -/
theorem goHoming_kept (hg : s.access[c].context = none) : KeepsBooks s (goHoming c s) := by
  rw [KeepsBooks, books_goHoming, Books.setHolding_same _ c (holding_free (.inl hg))]
  exact .refl _

theorem accessClosed_kept : KeepsBooks s (accessClosed c s) := by
  unfold accessClosed
  split
  case h_1 hstate =>
    split
    case h_1 hg => exact goHoming_kept s c hg
    case h_2 g hg =>
      rw [KeepsBooks, books_goHoming]
      exact closing_kept s c hstate hg false true
  all_goals exact .refl _

theorem accessLifted_kept : KeepsBooks s (accessLifted c s) := by
  unfold accessLifted
  split
  case h_1 => exact .refl _
  case h_2 => exact .refl _
  case h_3 hstate => exact cutGrant_kept s c .lapsed (by rw [hstate]; rfl)
  case h_4 hstate => exact cutGrant_kept s c .lapsed (by rw [hstate]; rfl)
  case h_5 hstate =>
    split
    case h_1 hg => exact goHoming_kept s c hg
    case h_2 g hg =>
      rw [KeepsBooks, books_goHoming, books_modAccess, Books.setHolding_setHolding]
      exact closing_kept s c hstate hg true false

/-! ### Reports of the latch and the hatch (R69, R70, R72, R77 to R80) -/

@[simp] theorem books_sendGrantVerdict : books (sendGrantVerdict c s) = books s := by
  unfold sendGrantVerdict
  split
  · rfl
  · split <;> exact books_sendVerdict ..

/-- The verdict of a grant leaves the grant with its machine. -/
theorem sendGrantVerdict_machine : (sendGrantVerdict c s).access[c].context = s.access[c].context ∧
    (sendGrantVerdict c s).access[c].state = s.access[c].state := by
  have hsends (v : VerdictCode) (m : Option Nat) :
      (sendVerdict c v m none s).access[c].context = s.access[c].context ∧
        (sendVerdict c v m none s).access[c].state = s.access[c].state := by
    obtain ⟨n, hmachine⟩ := sendVerdict_machine s c v m none
    exact hmachine ▸ ⟨rfl, rfl⟩
  unfold sendGrantVerdict
  split
  · exact ⟨rfl, rfl⟩
  · split <;> exact hsends _ _

/-- A machine whose state changes within its grant. -/
theorem books_modAccess_inGrant (f : Access → Access) (h : s.access[c].state.inGrant = true)
    (hstate : (f s.access[c]).state.inGrant = true)
    (hcontext : (f s.access[c]).context.isSome = s.access[c].context.isSome) :
    books (s.modAccess c f) = books s :=
  books_modAccess_same s c f (by simp only [holdsGrant, h, hstate, hcontext])

theorem accessReleased_kept : KeepsBooks s (accessReleased c s) := by
  unfold accessReleased
  split
  case h_1 hstate =>
    have hin : s.access[c].state.inGrant = true := by rw [hstate]; rfl
    split
    · exact cutGrant_kept s c .cancelled hin
    · refine .of_eq ?_
      rw [books_modAccess_inGrant _ c _ (by rw [(sendGrantVerdict_machine s c).2]; exact hin) rfl rfl,
        books_sendGrantVerdict]
  all_goals exact .refl _

theorem accessHome_kept : KeepsBooks s (accessHome c s) := by
  unfold accessHome
  split
  case h_1 hstate =>
    rw [KeepsBooks, books_arriveLocked,
      Books.setHolding_same _ c (holding_free (.inr (by rw [hstate]; rfl)))]
    exact .refl _
  all_goals exact .refl _

theorem accessFailed_kept : KeepsBooks s (accessFailed c s) := by
  unfold accessFailed
  split
  case h_1 hstate => exact releaseFailed_kept s c (by rw [hstate]; rfl)
  case h_2 hstate =>
    rw [KeepsBooks, books_arriveLocked,
      Books.setHolding_same _ c (holding_free (.inr (by rw [hstate]; rfl)))]
    exact .refl _
  all_goals exact .refl _

theorem accessReport_kept (r : Option LatchReport) : KeepsBooks s (accessReport c r s) := by
  rcases r with _ | _ | _ | _
  · exact .refl _
  · exact accessReleased_kept s c
  · exact accessHome_kept s c
  · exact accessFailed_kept s c

theorem books_openUnderGrant (h : s.access[c].state.inGrant = true) :
    books (openUnderGrant c s) = books s :=
  books_modAccess_inGrant s c _ h rfl (by simp)

/-- A machine that opens without a grant. -/
theorem openWithout_kept {u : State} (hu : books u = books s) (due : Nat)
    (h : s.access[c].state.inGrant = false) :
    KeepsBooks s (u.modAccess c (Access.openWithout due)) := by
  refine .of_eq ?_
  rw [books_modAccess, hu]
  exact Books.setHolding_same _ c (holding_free (.inr h))

theorem accessOpened_kept : KeepsBooks s (accessOpened c s) := by
  unfold accessOpened
  split
  case h_1 hstate =>
    dsimp only
    rw [KeepsBooks, books_abandonBurst]
    refine openWithout_kept s c ?_ _ (by rw [hstate]; rfl)
    split
    · rfl
    · exact books_takeFault s c _
  case h_2 hstate =>
    refine .of_eq ?_
    rw [books_openUnderGrant _ c (by rw [(sendGrantVerdict_machine s c).2, hstate]; rfl),
      books_sendGrantVerdict]
  case h_3 hstate => exact .of_eq (books_openUnderGrant s c (by rw [hstate]; rfl))
  case h_4 hstate => exact openWithout_kept s c (books_takeFault s c _) _ (by rw [hstate]; rfl)
  case h_5 => exact .refl _

theorem drainRequest_kept : KeepsBooks s (drainRequest c s) := by
  have hmark : books (s.modAccess c fun a => { a with drainMark := true }) = books s :=
    books_modAccess_same s c _ rfl
  simp only [drainRequest]
  split
  · exact .of_eq ((books_modAccess_same _ c _ rfl).trans hmark)
  case h_2 hstate =>
    have hcut := cutGrant_kept (s.modAccess c fun a => { a with drainMark := true }) c .cancelled
      (by rw [hstate]; rfl)
    rwa [KeepsBooks, hmark] at hcut
  all_goals exact .of_eq hmark

@[simp] theorem books_endDrain : books (endDrain c s) = books s := by
  unfold endDrain
  split
  · exact books_modAccess_same s c _ rfl
  · rfl

/-! ### A grant made (R64, R140) -/

/-- The crew path grants with room in the journal (R61). -/
theorem decideCrew_room {f g : Found} (h : decideCrew s c f = .grant g) : s.journal.sum < 2048 := by
  unfold decideCrew at h
  split at h
  · nomatch h
  · split at h
    · nomatch h
    case isFalse hroom => simp only [serviceCeiling] at hroom; omega

/-- The resident and business path grants with room in the journal (R62). -/
theorem decideResident_room {f g : Found} (h : decideResident s c f = .grant g) :
    s.journal.sum < 2048 := by
  by_contra hfull
  have hceiling : residentCeiling ≤ s.journal.sum := by simp only [residentCeiling]; omega
  simp only [decideResident, if_pos hceiling] at h
  repeat' split at h
  all_goals nomatch h

/-- A grant is made of a LOCKED machine, with room in the journal (R60). -/
theorem decidePresent_grant {card : CardNumber} {f : Found} (h : decidePresent s c card = .grant f) :
    s.access[c].state = .locked ∧ s.journal.sum < 2048 := by
  unfold decidePresent at h
  split at h
  · nomatch h
  · split at h
    · nomatch h
    case isFalse hlocked =>
      refine ⟨not_not.mp hlocked, ?_⟩
      split at h
      · nomatch h
      · split at h
        · nomatch h
        · split at h
          · nomatch h
          · split at h
            · exact decideCrew_room s c h
            all_goals exact decideResident_room s c h

/-- The grant before its release has taken its reservation (R64). -/
theorem books_grantHeld (card : CardNumber) (f : Found) :
    books (grantHeld c card f s) =
      { (books s).setHolding c true with reservations := (books s).reservations + 1 } := by
  rw [grantHeld, leaveLocked, books_abandonBurst, modAccess_modAccess, books_modAccess]
  rfl

/-- A grant takes its reservation, and a release that fails gives it up (R64, R70). -/
theorem makeGrant_kept (card : CardNumber) (f : Found) (hstate : s.access[c].state = .locked)
    (hroom : s.journal.sum < 2048) : KeepsBooks s (makeGrant c card f s) := by
  have hheld : KeepsBooks s (grantHeld c card f s) := by
    rw [KeepsBooks, books_grantHeld]
    exact Books.kept_grant _ c (holding_free (.inr (by rw [hstate]; rfl))) hroom
  have hrequest : books (releaseRequest c (grantHeld c card f s)) = books (grantHeld c card f s) := by
    simp [books]
  have haccess : (releaseRequest c (grantHeld c card f s)).access = (grantHeld c card f s).access := by
    simp
  rw [makeGrant_eq]
  split
  · rwa [KeepsBooks, hrequest]
  · have hin : (releaseRequest c (grantHeld c card f s)).access[c].state.inGrant = true := by
      rw [haccess, grantHeld_eq]
      simp [AccessState.inGrant]
    have hfailed := releaseFailed_kept _ c hin
    rw [KeepsBooks, hrequest] at hfailed
    exact hheld.trans hfailed

theorem takePresent_kept (card : CardNumber) : KeepsBooks s (takePresent c card s) := by
  unfold takePresent
  split
  · exact .of_eq (books_sendVerdict ..)
  case h_2 f h =>
    obtain ⟨hstate, hroom⟩ := decidePresent_grant s c h
    rw [KeepsBooks, books_chooseNext]
    exact makeGrant_kept s c card f hstate hroom

end
end Sys2Proof.Proofs.EmptyingRounds
end

section
/-! Proofs, BookRounds: what the round controller's operations, and the events that reach several blocks, make of the books (R111, R115 to R130, R132). -/

namespace Sys2Proof.Proofs.EmptyingRounds

open Sys2Proof Sys2Proof.Machine Sys2Proof.Proofs.AccessMachines

section
variable (s : State) (c : Column)

/-! ### Entries that become DONE (R111, R128) -/

/-- A column owes a record: its entry is not DONE (R111). -/
def Owes (r : Round) (c : Column) : Prop := ∃ e ∈ r.manifest, e.column = c ∧ e.status ≠ .done

variable {s c} in
theorem owes_of_claims {r : Round} (h : r.claims c = true) : Owes r c := by
  obtain ⟨e, he, hcolumn, hactive⟩ := claims_iff.mp h
  exact ⟨e, he, hcolumn, by simp [hactive]⟩

theorem claims_of_inStage {r : Round} {c : Column} {st : Stage} (h : r.inStage c st = true) :
    r.claims c = true := (Bool.and_eq_true _ _ ▸ h).1

theorem finishEntry_kept (o : EntryOutcome) (f : Option FailReason) (a : Option Nat)
    (residue : Bool) (h : Owes s.round c) : KeepsBooks s (finishEntry c o f a residue s) := by
  obtain ⟨e, he, rfl, hstatus⟩ := h
  obtain ⟨before, after, hm⟩ := List.append_of_mem he
  intro ho
  obtain ⟨hmanifest, hstate, -, -⟩ := finishOne_frame e (.finish o f a residue) s.round
  have hfinished : books (finishEntry e.column o f a residue s) =
      { (books s).record with manifest := before ++ e.finish o f a residue :: after } := by
    rw [finishEntry_eq (entryOf_listed ho.1 he), ← modEntry_split ho.1 hm, ← hmanifest]
    simp [books, hstate, Books.record, Journal.append, Journal.held]
  rw [hfinished]
  exact Books.kept_finish hm hstatus rfl rfl ho

theorem failEntry_kept (f : FailReason) (h : s.round.claims c = true) :
    KeepsBooks s (failEntry c f s) :=
  finishEntry_kept s c _ _ _ _ (owes_of_claims h)

theorem finishAll_kept {p : EntryStatus → Bool} (hdone : p .done = false) (o : EntryOutcome) :
    KeepsBooks s (finishAll o (s.round.columnsWith p) s) := by
  have hcolumns (r : Round) : r.columnsWith p = (entriesWith p r).map (·.column) := rfl
  generalize hes : entriesWith p s.round = es
  rw [hcolumns, hes]
  induction es generalizing s with
  | nil => exact .refl _
  | cons e es ih =>
    intro ho
    obtain ⟨before, after, hm, hbefore, he, -⟩ := List.filter_eq_cons_iff.mp hes
    have hrest := entriesWith_first (o := o) hdone ho.1 hm hbefore he
    rw [hes, List.cons.injEq] at hrest
    have howes : Owes s.round e.column :=
      ⟨e, by simp [hm], rfl, fun h => by rw [h, hdone] at he; nomatch he⟩
    exact ((finishEntry_kept s e.column o none none false howes).trans (ih _ hrest.2.symm)) ho

/-- The round leaves OPEN once every entry not DONE has been made DONE (R111). -/
theorem leaveOpen_kept {p : EntryStatus → Bool} (hdone : p .done = false) (o : EntryOutcome)
    (st : RoundState) (hall : ∀ e ∈ s.round.manifest, e.status ≠ .done → p e.status = true) :
    KeepsBooks s (leaveOpen st (finishAll o (s.round.columnsWith p) s)) := by
  intro ho
  refine ((finishAll_kept s hdone o).trans (Books.kept_leave st ?_)) ho
  intro e he
  have hmanifest : (books (finishAll o (s.round.columnsWith p) s)).manifest =
      s.round.manifest.map (finishIf p o) := by
    rw [finishAll_eq hdone ho.1]
    exact (finishWhere_frame p o s.round).1
  rw [hmanifest, List.mem_map] at he
  obtain ⟨d, hd, rfl⟩ := he
  exact finishIf_done (hall d hd)

/-! ### Reports to the round controller (R119 to R126) -/

theorem roundLocked_kept : KeepsBooks s (roundLocked c s) := by
  unfold roundLocked
  split
  case isTrue hin =>
    split
    · exact .refl _
    · have hfault : (takeFault c .latchFault s).round = s.round := by simp
      have hfail := failEntry_kept (takeFault c .latchFault s) c .latch
        (by rw [hfault]; exact claims_of_inStage hin)
      rwa [KeepsBooks, books_takeFault] at hfail
  case isFalse => exact .refl _

theorem deliverLocked_kept : KeepsBooks s (deliverLocked c s) := by
  have hmark : books (s.modAccess c fun a => { a with drainMark := false }) = books s :=
    books_modAccess_same s c _ rfl
  unfold deliverLocked
  split
  · have hreport := roundLocked_kept (s.modAccess c fun a => { a with drainMark := false }) c
    rwa [KeepsBooks, hmark] at hreport
  · exact .refl _

theorem roundOpened_kept : KeepsBooks s (roundOpened c s) := by
  unfold roundOpened
  split
  case isTrue hin => exact failEntry_kept (withdrawPermit c s) c .forcedHatch (claims_of_inStage hin)
  case isFalse => exact .refl _

@[simp] theorem books_roundLiftOut : books (roundLiftOut c s) = books s := by
  unfold roundLiftOut
  split <;> rfl

@[simp] theorem books_roundLiftIn : books (roundLiftIn c s) = books s := by
  simp only [roundLiftIn]
  split
  · split <;> rfl
  · rfl

theorem roundLifted_kept : KeepsBooks s (roundLifted c s) := by
  simp only [roundLifted]
  split
  case isTrue hclaims =>
    have hfail := failEntry_kept s c .unauthorisedLift hclaims
    split
    · rwa [KeepsBooks, books_endDrain]
    · exact hfail
  case isFalse => exact .refl _

theorem roundMeasured_kept (fill : Option Nat) : KeepsBooks s (roundMeasured c fill s) := by
  unfold roundMeasured
  split
  case isTrue hin => exact finishEntry_kept s c _ _ _ _ (owes_of_claims (claims_of_inStage hin))
  case isFalse => exact .refl _

/-! ### Events that reach several blocks (R4, R7, R10, R11) -/

theorem reportOpened_kept : KeepsBooks s (reportOpened c s) := by
  have reported (u : State) (hu : books u = books s) :
      KeepsBooks s (deliverLocked c (abandonBurst c (roundOpened c (accessOpened c u)))) := by
    have hopened := (accessOpened_kept u c).trans (roundOpened_kept _ c)
    have hdelivered := deliverLocked_kept (abandonBurst c (roundOpened c (accessOpened c u))) c
    rw [KeepsBooks, books_abandonBurst] at hdelivered
    rw [KeepsBooks, ← hu]
    exact hopened.trans hdelivered
  unfold reportOpened
  dsimp only
  split
  · exact reported _ (books_takeFault s c _)
  · exact reported s rfl

theorem reportClosed_kept : KeepsBooks s (reportClosed c s) :=
  (accessClosed_kept s c).trans (deliverLocked_kept _ c)

theorem rereadHatch_kept : KeepsBooks s (rereadHatch c s) := by
  simp only [rereadHatch]
  split
  · exact reportOpened_kept (s.modSup c Supervisor.readHatch) c
  · exact .refl _

theorem reportLift_kept : KeepsBooks s (reportLift c s) := by
  have hlifted := (accessLifted_kept s c).trans (roundLifted_kept _ c)
  have hdelivered := deliverLocked_kept (abandonBurst c (roundLifted c (accessLifted c s))) c
  rw [KeepsBooks, books_abandonBurst] at hdelivered
  exact hlifted.trans hdelivered

@[simp] theorem books_takeInput (i : Input) (closed : Bool) :
    books (takeInput c i closed s) = books s := rfl

@[simp] theorem books_takeHatch (closed : Bool) : books (takeHatch c closed s) = books s := by
  simp only [takeHatch]
  split <;> rfl

theorem liftTaken_kept : KeepsBooks s (liftTaken c s) := by
  simp only [liftTaken]
  split
  · exact .refl _
  · split
    · rw [KeepsBooks, books_chooseNext, books_abandonBurst, books_roundLiftOut]
      exact .refl _
    · rw [KeepsBooks, books_chooseNext]
      exact reportLift_kept
        (markAbsent c ((takeInput c .lift false s).modSup c Supervisor.ignoreHatch)) c

theorem returnTaken_kept : KeepsBooks s (returnTaken c s) := by
  simp only [returnTaken]
  split
  · exact .refl _
  · rw [KeepsBooks, books_chooseNext]
    exact rereadHatch_kept
      (enqueue c ((takeInput c .lift true s).modSup c Supervisor.returned)) c
  all_goals
    rw [KeepsBooks, books_chooseNext]
    have hreread := rereadHatch_kept (roundLiftIn c (takeInput c .lift true s)) c
    rwa [KeepsBooks, books_roundLiftIn] at hreread

@[simp] theorem books_contactJudged : books (contactJudged c s).1 = books s := by
  simp only [contactJudged]
  repeat' split
  all_goals simp [failLatch]

theorem contactTaken_kept : KeepsBooks s (contactTaken c s) := by
  have hreport := accessReport_kept (contactJudged c s).1 c (contactJudged c s).2
  rw [KeepsBooks, books_contactJudged] at hreport
  rw [KeepsBooks, contactTaken, books_chooseNext]
  exact hreport.trans (deliverLocked_kept _ c)

/-! ### Requests and timers of the round (R112 to R118, R129, R130, R132) -/

theorem openRound_kept {id : BitVec 16} {vehicle : BitVec 32} {cols : List Column}
    (hclosed : s.round.state ≠ .open) (hn : cols.Nodup)
    (hroom : s.journal.sum + cols.length ≤ 2048) :
    KeepsBooks s (openRound id vehicle cols s) :=
  Books.kept_open (b := books s) hclosed hn hroom

/-- What an accepted claim has found (R117). -/
theorem claimRefusal_none (h : claimRefusal s c = none) :
    ∃ e ∈ s.round.manifest, e.column = c ∧ e.status = .pending ∧
      ∀ x ∈ s.round.manifest, x.status ≠ .active := by
  unfold claimRefusal at h
  split at h
  · nomatch h
  · split at h
    · nomatch h
    case h_2 e he =>
      split at h
      · nomatch h
      case isFalse hpending =>
        split at h
        · nomatch h
        case isFalse hnone =>
          obtain ⟨hmem, hcolumn⟩ := entryOf_mem he
          exact ⟨e, hmem, hcolumn, not_not.mp hpending, fun x hx hactive =>
            hnone (active_isSome_iff.mpr ⟨x, hx, hactive⟩)⟩

/-- An entry claimed with the column's fill before (R118). -/
def claimEntry (before : Nat) (e : ManifestEntry) : ManifestEntry :=
  { e with status := .active, fillBefore := some before }

/-- The part with the entry claimed, before its machine is asked to drain (R118). -/
def claimMade : State :=
  abandonBurst c (reloadSupervision
    { s with round :=
      { s.round.modEntry c (claimEntry s.fills[c].estimate) with stage := some .draining } })

theorem claim_eq : claim c s = chooseNext (deliverLocked c (drainRequest c (claimMade s c))) := rfl

/-- An accepted claim makes its entry the active one, and then asks the machine to drain (R118). -/
theorem claim_kept (h : claimRefusal s c = none) : KeepsBooks s (claim c s) := by
  obtain ⟨e, he, rfl, hpending, hnone⟩ := claimRefusal_none s c h
  obtain ⟨before, after, hm⟩ := List.append_of_mem he
  have hclaimed : KeepsBooks s (claimMade s e.column) := by
    intro ho
    have hbooks : books (claimMade s e.column) =
        { books s with manifest := before ++ claimEntry s.fills[e.column].estimate e :: after } := by
      rw [claimMade, books_abandonBurst, books_reloadSupervision, ← modEntry_split ho.1 hm]
      rfl
    rw [hbooks]
    exact Books.kept_claim hm (by simp [hpending]) rfl rfl hnone ho
  rw [KeepsBooks, claim_eq, books_chooseNext]
  exact (hclaimed.trans (drainRequest_kept _ e.column)).trans (deliverLocked_kept _ e.column)

/-- What an accepted skip has found (R129). -/
theorem skipRefusal_none (h : skipRefusal s c = none) : Owes s.round c := by
  unfold skipRefusal at h
  split at h
  · nomatch h
  · split at h
    · nomatch h
    case h_2 e he =>
      split at h
      · nomatch h
      case isFalse hdone => exact ⟨e, (entryOf_mem he).1, (entryOf_mem he).2, hdone⟩

theorem skip_kept (h : skipRefusal s c = none) : KeepsBooks s (skip c s) := by
  have skipped (u : State) (hround : u.round = s.round) (hu : books u = books s) :
      KeepsBooks s (chooseNext (reloadSupervision (finishEntry c .skipped none none false u))) := by
    have hfinish := finishEntry_kept u c .skipped none none false
      (by rw [hround]; exact skipRefusal_none s c h)
    rw [KeepsBooks, hu] at hfinish
    rwa [KeepsBooks, books_chooseNext, books_reloadSupervision]
  simp only [skip]
  split
  · exact skipped _ (by simp) (books_endDrain s c)
  · split
    · exact skipped _ rfl rfl
    · exact skipped s rfl rfl

theorem roundClosed_kept (h : ¬s.round.active.isSome = true) :
    KeepsBooks s (leaveOpen .closed (finishAll .skipped s.round.pending s)) := by
  refine leaveOpen_kept s rfl .skipped .closed fun e he hdone => ?_
  rw [active_isSome_iff] at h
  cases hstatus : e.status with
  | pending => rfl
  | active => exact absurd ⟨e, he, hstatus⟩ h
  | done => exact absurd hstatus hdone

/-- Beside the active entry none is ACTIVE (R111). -/
theorem inactive_beside {l before after : List ManifestEntry} {e : ManifestEntry}
    (hone : (l.filter fun e => decide (e.status = .active)).length ≤ 1)
    (hm : l = before ++ e :: after) (he : e.status = .active) :
    ∀ x ∈ before ++ after, x.status ≠ .active := by
  intro x hx hactive
  rw [hm, List.filter_append, List.filter_cons_of_pos (by simpa using he)] at hone
  have hmem : x ∈ (before ++ after).filter fun e => decide (e.status = .active) :=
    List.mem_filter.mpr ⟨hx, by simpa using hactive⟩
  have hpos := List.length_pos_of_mem hmem
  simp only [List.filter_append, List.length_append, List.length_cons] at hone hpos
  omega

/-- The supervision timer's expiry fails the active entry (R115). -/
theorem timeOutActive_kept : KeepsBooks s (timeOutActive s) := by
  unfold timeOutActive
  split
  · exact .refl _
  case h_2 e he =>
    obtain ⟨hmem, hactive⟩ := active_mem he
    have hfinish := finishEntry_kept s e.column .failed (some .timeout) none false
      ⟨e, hmem, rfl, by simp [hactive]⟩
    dsimp only
    split
    · rwa [KeepsBooks, books_endDrain]
    · split <;> exact hfinish

/-- What the expiry makes of the active entry is the entry's end; the drain ended or the permit withdrawn
with it is no matter of the round (R115). -/
theorem timeOutActive_eq {e : ManifestEntry} (he : s.round.active = some e) :
    let ended := finishEntry e.column .failed (some .timeout) none false s
    (timeOutActive s).round = ended.round ∧ (timeOutActive s).journal = ended.journal ∧
      (timeOutActive s).alerts = ended.alerts := by
  simp only [timeOutActive, he]
  split
  · simp
  · split <;> simp

theorem timeOutActive_none (h : s.round.active = none) : timeOutActive s = s := by
  rw [timeOutActive, h]

/-- The active entry is made DONE in its place, beside entries of which none is ACTIVE. -/
theorem timeOutActive_split {e : ManifestEntry} (ho : RoundLaw s) (he : s.round.active = some e) :
    ∃ before after, s.round.manifest = before ++ e :: after ∧
      (∀ x ∈ before ++ after, x.status ≠ .active) ∧
      (timeOutActive s).round.manifest =
        before ++ e.finish .failed (some .timeout) none false :: after := by
  obtain ⟨hn, hone, -⟩ := ho
  obtain ⟨hmem, hactive⟩ := active_mem he
  obtain ⟨before, after, hm⟩ := List.append_of_mem hmem
  refine ⟨before, after, hm, inactive_beside hone hm hactive, ?_⟩
  rw [(timeOutActive_eq s he).1, finishEntry_eq (entryOf_listed hn hmem), ← modEntry_split hn hm]
  exact (finishOne_frame ..).1

/-- After it no entry is ACTIVE. -/
theorem timeOutActive_inactive (ho : RoundLaw s) :
    ∀ e ∈ (timeOutActive s).round.manifest, e.status ≠ .active := by
  cases he : s.round.active with
  | none =>
    rw [timeOutActive_none s he]
    exact fun e hmem hactive => by simpa [he] using active_isSome_iff.mpr ⟨e, hmem, hactive⟩
  | some e =>
    obtain ⟨before, after, -, hothers, hmanifest⟩ := timeOutActive_split s ho he
    intro x hx
    rw [hmanifest, List.mem_append, List.mem_cons] at hx
    rcases hx with hx | rfl | hx
    · exact hothers x (List.mem_append_left _ hx)
    · nofun
    · exact hothers x (List.mem_append_right _ hx)

theorem abortRound_kept : KeepsBooks s (abortRound s) := by
  intro ho
  have hpending : ∀ e ∈ (timeOutActive s).round.manifest, e.status ≠ .done →
      decide (e.status = .pending) = true := fun e he hdone => by
    have hinactive := timeOutActive_inactive s ho e he
    cases hstatus : e.status with
    | pending => rfl
    | active => exact absurd hstatus hinactive
    | done => exact absurd hstatus hdone
  have hraise (u : State) : books (raiseAlert .roundAborted none u) = books u := rfl
  simp only [abortRound, hraise]
  exact ((timeOutActive_kept s).trans
    (leaveOpen_kept (timeOutActive s) (p := fun st => decide (st = .pending)) rfl .aborted .aborted
      hpending)) ho

theorem restartRound_kept : KeepsBooks s (restartRound s) := by
  have hwithdraw : (withdrawActive s).round = s.round := by simp
  have hbooks : books (withdrawActive s) = books s := by simp [books]
  unfold restartRound
  split
  · have hleave := leaveOpen_kept (withdrawActive s) (p := fun st => decide (st ≠ .done)) rfl .aborted
      .aborted fun _ _ h => decide_eq_true h
    rw [KeepsBooks, hwithdraw, hbooks] at hleave
    exact hleave
  · exact .refl _

end
end Sys2Proof.Proofs.EmptyingRounds
end

section
/-! Proofs, BookBlocks: what the ranging engine's results, a profile write and the blocks' restarts make of the books (R83, R84, R88, R171, R173). -/

namespace Sys2Proof.Proofs.EmptyingRounds

open Sys2Proof Sys2Proof.Machine Sys2Proof.Proofs.AccessMachines

section
variable (s : State) (c : Column)

/-- What every item of a list keeps, the list keeps. -/
theorem foldl_kept {α : Type} {f : State → α → State} (h : ∀ s a, KeepsBooks s (f s a)) (l : List α) :
    KeepsBooks s (l.foldl f s) := by
  induction l generalizing s with
  | nil => exact .refl _
  | cons a l ih => exact (h s a).trans (ih (f s a))

/-! ### Ranging (R86 to R88) -/

/-- A result of an EMPTYING burst goes on to the round controller, once the tracker has acted on it. -/
theorem measured_kept {u : State} (hu : books u = books s) (b : Burst) (fill : Option Nat) :
    KeepsBooks s (if b.purpose = .emptying then roundMeasured b.column fill u else u) := by
  rw [KeepsBooks, ← hu]
  split
  · exact roundMeasured_kept u b.column fill
  · exact .refl _

theorem handSuccess_kept (b : Burst) (mm : Nat) : KeepsBooks s (handSuccess b mm s) :=
  measured_kept s (by simp [books]) b _

theorem handFailure_kept (b : Burst) : KeepsBooks s (handFailure b s) := by
  simp only [handFailure]
  split
  · have hemptied : books (trackEmptied b.column (countFailure b.column s)) = books s := by
      simp [books]
    rw [KeepsBooks, ← hemptied]
    exact roundMeasured_kept _ b.column none
  · exact .of_eq (by simp [books])

theorem finishBurst_kept (b : Burst) : KeepsBooks s (finishBurst b s) := by
  have hends : books (endBurst s) = books s := by simp [books]
  rw [KeepsBooks, finishBurst, books_chooseNext, ← hends]
  split
  · exact handSuccess_kept (endBurst s) b _
  all_goals exact handFailure_kept (endBurst s) b

theorem closeWindow_kept (b : Burst) (r : PingResult) : KeepsBooks s (closeWindow b r s) := by
  simp only [closeWindow]
  split
  · exact finishBurst_kept { s with ranging := { s.ranging with burst := some _ } } _
  · exact .refl _

@[simp] theorem books_firePing : books (firePing s) = books s := by
  unfold firePing
  repeat' split
  all_goals rfl

/-! ### A profile write (R16, R105, R106, R171) -/

theorem enableColumn_kept : KeepsBooks s (enableColumn c s) := by
  have reported (u : State) (hu : books u = books s) :
      KeepsBooks s (if u.sups[c].hatchOpen then reportOpened c u else u) := by
    rw [KeepsBooks, ← hu]
    split
    · exact reportOpened_kept u c
    · exact .refl _
  simp only [enableColumn]
  split
  · exact .refl _
  · refine reported _ ?_
    split
    · rfl
    · exact books_takeFault _ c _

@[simp] theorem books_disableColumn : books (disableColumn c s) = books s := by
  have hdrop (u : State) : books (dropColumn c u) = books u := by simp [books]
  rw [disableColumn, hdrop]
  exact books_modAccess_same _ c _ rfl

theorem switchColumn_kept (before : Profile) (s : State) (x : Setting) :
    KeepsBooks s (switchColumn before s x) := by
  simp only [switchColumn]
  split
  · split
    · exact enableColumn_kept s _
    · exact .of_eq (books_disableColumn s _)
  · exact .refl _

theorem applySettings_kept (xs : List Setting) : KeepsBooks s (applySettings xs s) := by
  have hbands (before : Profile) (u : State) : KeepsBooks u (rejudgeBands before u) := by
    unfold rejudgeBands
    split
    · exact .refl _
    · exact foldl_kept u (fun u k => .of_eq (by simp [books])) allColumns
  rw [KeepsBooks, applySettings, books_chooseNext]
  exact (foldl_kept { s with profile := s.profile.putAll xs } (switchColumn_kept s.profile) xs).trans
    (hbands _ _)

/-! ### The restart of the machines (R83, R84) -/

/-- A grant settled by a restart gives up its reservation or takes it for its record, and stays with its
machine until the machine is set. -/
theorem settleGrant_books :
    (books s).holding c = false ∧ books (settleGrant s c) = books s ∨
      (books s).holding c = true ∧ (books (settleGrant s c) = (books s).release ∨
        books (settleGrant s c) = (books s).record) := by
  unfold settleGrant
  split
  case h_1 hg => exact .inl ⟨holding_free (.inl hg), rfl⟩
  case h_2 g hg =>
    have hundone : books (undoGrant c s) = (books s).release := by rw [undoGrant_eq s c hg]; rfl
    split
    case h_1 hstate => exact .inr ⟨holding_granted hg (by rw [hstate]; rfl), .inl hundone⟩
    case h_2 hstate => exact .inr ⟨holding_granted hg (by rw [hstate]; rfl), .inl hundone⟩
    case h_3 hstate =>
      exact .inr ⟨holding_granted hg (by rw [hstate]; rfl), .inr (books_settleOpened ..)⟩
    case h_4 hstate => exact .inl ⟨holding_free (.inr (by rw [hstate]; rfl)), rfl⟩
    case h_5 hstate => exact .inl ⟨holding_free (.inr (by rw [hstate]; rfl)), rfl⟩

/-- Settling the grants of some columns leaves the reservations of the others and of the entries. -/
theorem foldl_settleGrant_books (l : List Column) (n : Nat)
    (h : (books s).reservations = (l.filter (books s).holding).length + n) :
    ∃ held, books (l.foldl settleGrant s) = { books s with reservations := n, held := held } ∧
      held + n ≤ (books s).held + (books s).reservations := by
  induction l generalizing s with
  | nil =>
    have hn : (books s).reservations = n := by simpa using h
    exact ⟨(books s).held, by rw [← hn]; rfl, by rw [hn]⟩
  | cons c l ih =>
    rw [List.foldl_cons]
    rcases settleGrant_books s c with ⟨hfree, heq⟩ | ⟨hheld, heq⟩
    · rw [List.filter_cons_of_neg (by simp [hfree])] at h
      rw [← heq] at h ⊢
      exact ih _ h
    · rw [List.filter_cons_of_pos hheld, List.length_cons] at h
      rcases heq with heq | heq
      · obtain ⟨held, hbooks, hroom⟩ := ih (settleGrant s c) (by rw [heq]; simp only [Books.release]; omega)
        rw [heq] at hbooks hroom
        exact ⟨held, hbooks, hroom.trans (by simp only [Books.release]; omega)⟩
      · obtain ⟨held, hbooks, hroom⟩ := ih (settleGrant s c) (by rw [heq]; simp only [Books.record]; omega)
        rw [heq] at hbooks hroom
        exact ⟨held, hbooks, hroom.trans (by simp only [Books.record]; omega)⟩

theorem books_restartAccess : books (restartAccess s c) = (books s).setHolding c false := by
  have hcontext (due : Nat) (hatchOpen : Bool) (latch : LatchState) (a : Access) :
      holdsGrant (a.restart due hatchOpen latch) = false := by
    unfold Access.restart
    dsimp only
    split <;> rfl
  simp only [restartAccess]
  split
  · exact books_modAccess s c _
  · rw [books_abandonBurst, books_modAccess, hcontext]

/-- Setting the machines of some columns leaves none of them with a grant. -/
theorem foldl_restartAccess_books (l : List Column) :
    books (l.foldl restartAccess s) =
      { books s with holding := fun k => !l.contains k && (books s).holding k } := by
  induction l generalizing s with
  | nil => rfl
  | cons c l ih =>
    rw [List.foldl_cons, ih, books_restartAccess]
    simp only [Books.setHolding, Books.mk.injEq, true_and, and_true]
    funext k
    by_cases hk : k = c <;> simp [hk]

/-- The restart of the machines leaves the round record. -/
theorem restartMachines_round : (restartMachines s).round = s.round := by
  have hsettle (u : State) (k : Column) : (settleGrant u k).round = u.round := by
    unfold settleGrant
    repeat' split
    all_goals simp
  have hset (u : State) (k : Column) : (restartAccess u k).round = u.round := by
    simp only [restartAccess]
    split <;> simp
  have hfold (f : State → Column → State) (hf : ∀ u k, (f u k).round = u.round) (l : List Column)
      (u : State) : (l.foldl f u).round = u.round := by
    induction l generalizing u with
    | nil => rfl
    | cons k l ih => rw [List.foldl_cons, ih, hf]
  rw [restartMachines, hfold _ hset, hfold _ hsettle]

/-- Every grant in flight is settled and no machine keeps one (R83, R84). -/
theorem restartMachines_kept : KeepsBooks s (restartMachines s) := by
  intro ho
  refine ⟨?_, fun ⟨hcount, hroom⟩ => ?_⟩
  · rw [← roundLaw_iff, RoundLaw, restartMachines_round]
    exact ho
  · obtain ⟨held, hbooks, hsettled⟩ := foldl_settleGrant_books s allColumns _ hcount
    have hlast : books (restartMachines s) = { books s with
        reservations := Books.unfinished (books s).manifest, held := held, holding := fun _ => false } := by
      rw [restartMachines, foldl_restartAccess_books, hbooks]
      simp only [Books.mk.injEq, true_and, and_true]
      funext k
      have hmem : k ∈ allColumns := by revert k; decide
      simp [hmem]
    rw [hlast]
    refine ⟨?_, hsettled.trans hroom⟩
    simp [Books.granted]

end
end Sys2Proof.Proofs.EmptyingRounds
end

section
/-! Proofs, BookCommands: every command, and so every step, keeps the manifest's law and the journal's count (R111, R139). -/

namespace Sys2Proof.Proofs.EmptyingRounds

open Sys2Proof Sys2Proof.Machine Sys2Proof.Proofs.AccessMachines

/-! ### A request (R162, R163) -/

/-- A request's action keeps the books. -/
def ActionKeeps (act : State → State × List Byte) : Prop := ∀ u, KeepsBooks u (act u).1

section
variable {body : List Byte}

theorem withNoBody_kept {act : State → State × List Byte} (h : ActionKeeps act) :
    ActionKeeps (withNoBody body act) := fun u => by
  unfold withNoBody
  split
  · exact h u
  · exact .refl _

theorem withByte_kept {act : Byte → State → State × List Byte} (h : ∀ b, ActionKeeps (act b)) :
    ActionKeeps (withByte body act) := fun u => by
  unfold withByte
  split
  · exact h _ u
  · exact .refl _

theorem withTwoBytes_kept {act : Byte → Byte → State → State × List Byte}
    (h : ∀ a b, ActionKeeps (act a b)) : ActionKeeps (withTwoBytes body act) := fun u => by
  unfold withTwoBytes
  split
  · exact h _ _ u
  · exact .refl _

theorem withColumn_kept {act : Column → State → State × List Byte} (h : ∀ c, ActionKeeps (act c)) :
    ActionKeeps (withColumn body act) :=
  withByte_kept fun b u => by
    split
    · exact .refl _
    · exact h _ u

theorem unlessTransfer_kept {act : State → State × List Byte} (h : ActionKeeps act) :
    ActionKeeps (unlessTransfer act) := fun u => by
  unfold unlessTransfer
  split
  · exact .refl _
  · exact h u

end

/-- An event does to the books what its effect does: the choice due before it leaves them. -/
theorem event_kept {f : State → State} {s t : State} (h : event f s = .next t)
    (effect : ∀ u, KeepsBooks u (f u)) : KeepsBooks s t := by
  have hready : books s.ready = books s := by simp [books]
  cases h
  rw [KeepsBooks, ← hready]
  exact effect s.ready

theorem request_kept {kind : Byte} {act : State → State × List Byte} {s t : State}
    (h : event (serve kind act) s = .next t) (action : ActionKeeps act) : KeepsBooks s t :=
  event_kept h fun u => by
    unfold serve
    split
    · exact .refl _
    · exact action (hostFrameEnds u)

/-! ### The requests (02 to 09) -/

section
variable (body : List Byte)

theorem timeSet_kept : ActionKeeps (timeSet body) := fun u => by
  simp only [timeSet]
  repeat' split
  all_goals exact .refl _

theorem profileWrite_kept : ActionKeeps (profileWrite body) := fun u => by
  unfold profileWrite
  split
  · exact .refl _
  · split
    · exact .refl _
    · split
      · exact .refl _
      · exact applySettings_kept u _

theorem profileRead_kept : ActionKeeps (profileRead body) :=
  withByte_kept fun _ u => by
    split
    · exact .refl _
    · split <;> exact .refl _

theorem alertFetch_kept : ActionKeeps (alertFetch body) :=
  withByte_kept fun _ u => by split <;> exact .refl _

theorem alertFloor_kept : ActionKeeps (alertFloor body) :=
  withByte_kept fun _ u => by split <;> exact .refl _

theorem transferRequest_kept (kind : TransferKind) : ActionKeeps (transferRequest kind body) :=
  withTwoBytes_kept fun _ _ => unlessTransfer_kept fun u => by
    split
    · exact .refl _
    · split <;> exact .refl _

theorem tableData_kept (more : Bool) : ActionKeeps (tableData more body) := fun u => by
  have hwrite (x : Transfer) (v : State) : books (finalWrite x v).1 = books v := by
    unfold finalWrite
    split <;> rfl
  have hverify (x : Transfer) (v : State) : books (finalVerify x v).1 = books v := by
    unfold finalVerify
    split <;> rfl
  refine .of_eq ?_
  unfold tableData
  split
  · rfl
  · split
    · rfl
    · dsimp only
      split
      · rfl
      · split
        · exact hwrite _ _
        · exact hverify _ _

theorem tableErase_kept : ActionKeeps (tableErase body) :=
  withTwoBytes_kept fun _ _ => unlessTransfer_kept fun u => by
    split
    · exact .refl _
    · split
      · exact .refl _
      · exact keepsBooks_of_frame rfl rfl rfl

theorem tableSum_kept : ActionKeeps (tableSum body) :=
  withTwoBytes_kept fun _ _ u => by split <;> exact .refl _

theorem tablePin_kept : ActionKeeps (tablePin body) :=
  withTwoBytes_kept fun _ _ => unlessTransfer_kept fun u => by
    split
    · exact .refl _
    · exact keepsBooks_of_frame rfl rfl rfl

theorem tableRelease_kept : ActionKeeps (tableRelease body) :=
  withNoBody_kept (unlessTransfer_kept fun u => by
    split
    · exact .refl _
    · split
      · exact .refl _
      · exact keepsBooks_of_frame rfl rfl rfl)

theorem cardQuery_kept : ActionKeeps (cardQuery body) := fun u => by
  simp only [cardQuery]
  repeat' split
  all_goals exact .refl _

theorem cardModify_kept : ActionKeeps (cardModify body) := fun u => by
  simp only [cardModify]
  repeat' split
  all_goals exact .refl _

theorem columnService_kept : ActionKeeps (columnService body) :=
  withColumn_kept fun c u => by
    split
    · exact .refl _
    · split
      · exact .refl _
      · exact .of_eq (by simp [books])

theorem columnWithdraw_kept : ActionKeeps (columnWithdraw body) :=
  withColumn_kept fun c u => by split <;> exact .refl _

theorem columnMeasure_kept : ActionKeeps (columnMeasure body) :=
  withColumn_kept fun c u => by
    split
    · exact .refl _
    · exact .of_eq (by simp [books])

/-- What an accepted ROUND OPEN lists it lists once (R112). -/
theorem roundColumns_nodup {s : State} {id : BitVec 16} {n : Byte} {cs : List Byte}
    {cols : List Column} (h : roundColumns s id n cs = some cols) : cols.Nodup := by
  unfold roundColumns at h
  split at h
  · nomatch h
  · split at h
    · nomatch h
    · split at h
      case isTrue hgood => exact Option.some.inj h ▸ hgood.1
      case isFalse => nomatch h

theorem roundOpen_kept : ActionKeeps (roundOpen body) := fun u => by
  unfold roundOpen
  split
  · split
    · exact .refl _
    · split
      · exact .refl _
      case isFalse hclosed =>
        split
        · exact .refl _
        case h_2 cols hcols =>
          split
          · exact .refl _
          case isFalse hroom =>
            exact openRound_kept u hclosed (roundColumns_nodup hcols) (not_lt.mp hroom)
  · exact .refl _

theorem roundClaim_kept : ActionKeeps (roundClaim body) :=
  withColumn_kept fun c u => by
    split
    · exact .refl _
    case h_2 h => exact claim_kept u c h

theorem roundSkip_kept : ActionKeeps (roundSkip body) :=
  withColumn_kept fun c u => by
    split
    · exact .refl _
    case h_2 h => exact skip_kept u c h

theorem roundKeep_kept : ActionKeeps (roundKeep body) :=
  withNoBody_kept fun u => (by split <;> exact .refl _)

theorem roundClose_kept : ActionKeeps (roundClose body) :=
  withNoBody_kept fun u => (by
    split
    · exact .refl _
    · split
      · exact .refl _
      case isFalse h => exact roundClosed_kept u h)

theorem journalRead_kept : ActionKeeps (journalRead body) :=
  withTwoBytes_kept fun _ _ u => by split <;> exact .refl _

theorem journalRelease_kept : ActionKeeps (journalRelease body) :=
  withTwoBytes_kept fun _ _ u => by
    dsimp only
    split
    · exact .refl _
    · exact Books.kept_drop (b := books u) ((List.drop_sublist _ _).length_le)

end

/-! ### The events -/

section
variable {s t : State} {c : Column}

theorem discardFrame_kept (line : Line) : KeepsBooks s (discardFrame line s) := by
  refine .of_eq ?_
  unfold discardFrame
  split <;> split <;> simp [books]

theorem execInterbyteGap_kept {line : Line} (h : execInterbyteGap line s = .next t) :
    KeepsBooks s t :=
  event_kept h fun u => by
    split
    · exact .refl _
    case h_2 r _ => exact discardFrame_kept (s := reach r.gap u) line

theorem execPresent_kept {card : CardNumber} (h : execPresent c card s = .next t) :
    KeepsBooks s t :=
  event_kept h fun u => by
    have hends : books (readerFrameEnds u) = books u := by simp [books]
    split
    · exact .refl _
    · split
      · exact .of_eq hends
      · rw [KeepsBooks, ← hends]
        exact takePresent_kept _ c card

theorem execHatchOpened_kept (h : execHatchOpened c s = .next t) : KeepsBooks s t :=
  event_kept h fun u => by
    split
    · dsimp only
      split
      · have hopened := reportOpened_kept (takeHatch c false u) c
        rwa [KeepsBooks, books_takeHatch, ← books_chooseNext (reportOpened c _)] at hopened
      · exact .of_eq (books_takeHatch u c false)
    · exact .refl _

theorem execHatchClosed_kept (h : execHatchClosed c s = .next t) : KeepsBooks s t :=
  event_kept h fun u => by
    split
    · exact .refl _
    · dsimp only
      split
      · have hclosed := reportClosed_kept (takeHatch c true u) c
        rwa [KeepsBooks, books_takeHatch, ← books_chooseNext (reportClosed c _)] at hclosed
      · exact .of_eq (books_takeHatch u c true)

theorem execLatchContactChange_kept {k : Contact} {made : Bool}
    (h : execLatchContactChange c k made s = .next t) : KeepsBooks s t :=
  event_kept h fun u => by
    split
    · exact .refl _
    · dsimp only
      split
      · exact .refl _
      · exact contactTaken_kept (takeInput c (.contact k) made u) c

theorem execLatchTravelTimeout_kept (h : execLatchTravelTimeout c s = .next t) : KeepsBooks s t :=
  event_kept h fun u => by
    split
    · exact .refl _
    case h_2 due _ =>
      have hfailed := accessFailed_kept (failLatch c (reach due u)) c
      have hlatch : books (failLatch c (reach due u)) = books u := books_takeFault _ c _
      rw [KeepsBooks, hlatch] at hfailed
      rw [KeepsBooks, books_chooseNext]
      exact hfailed.trans (deliverLocked_kept _ c)

theorem execGrantTimerExpiry_kept (h : execGrantTimerExpiry c s = .next t) : KeepsBooks s t :=
  event_kept h fun u => by
    split
    · exact .refl _
    case h_2 due _ =>
      split
      case isTrue hstate =>
        have hcut := cutGrant_kept (reach due u) c .lapsed (by
          rw [State.reach_access, hstate]; rfl)
        rw [KeepsBooks, books_chooseNext]
        exact Books.Kept.trans hcut (deliverLocked_kept _ c)
      · exact .refl _

theorem execOpenTimerExpiry_kept (h : execOpenTimerExpiry c s = .next t) : KeepsBooks s t :=
  event_kept h fun u => by
    split
    · exact .refl _
    · split
      · refine .of_eq ?_
        rw [books_takeFault]
        exact books_modAccess_same _ c _ (by simp [holdsGrant, Access.outrun])
      · exact .refl _

theorem execLatchRestExpiry_kept (h : execLatchRestExpiry c s = .next t) : KeepsBooks s t :=
  event_kept h fun u => by
    split
    · exact .refl _
    case h_2 due _ =>
      have hrest : books ((reach due u).modAccess c fun a => { a with rest := none }) = books u :=
        books_modAccess_same _ c _ rfl
      dsimp only
      split
      · exact .of_eq ((books_homeRequest _ c).trans hrest)
      · exact .of_eq hrest

theorem execEcho_kept {counter : Nat} (h : execEcho counter s = .next t) : KeepsBooks s t :=
  event_kept h fun u => by
    split
    · exact .refl _
    case h_2 b _ =>
      split
      · exact .refl _
      case h_2 opened _ =>
        split
        · exact .refl _
        · dsimp only
          split
          · exact .refl _
          · exact closeWindow_kept (reach (counterTime opened counter) u) b _

theorem execNoEcho_kept (h : execNoEcho s = .next t) : KeepsBooks s t :=
  event_kept h fun u => by
    split
    · exact .refl _
    case h_2 b _ =>
      split
      · exact .refl _
      case h_2 opened _ => exact closeWindow_kept (reach (counterTime opened windowEnd) u) b _

theorem execScanPauseExpiry_kept (h : execScanPauseExpiry s = .next t) : KeepsBooks s t :=
  event_kept h fun u => by
    split
    · exact .refl _
    · exact .of_eq (books_chooseNext _)

theorem execSupervisionTimerExpiry_kept (h : execSupervisionTimerExpiry s = .next t) :
    KeepsBooks s t :=
  event_kept h fun u => by
    split
    · exact .refl _
    case h_2 due _ =>
      split
      · rw [KeepsBooks, books_chooseNext]
        exact abortRound_kept (reach due u)
      · exact .refl _

theorem execSettleTimerExpiry_kept (h : execSettleTimerExpiry s = .next t) : KeepsBooks s t :=
  event_kept h fun u => by
    split
    · exact .refl _
    · dsimp only
      split
      · exact .refl _
      · split
        · exact .of_eq (books_chooseNext _)
        · exact .refl _

theorem execCheckError_kept (h : execCheckError s = .next t) : KeepsBooks s t :=
  request_kept h fun _ => keepsBooks_of_frame rfl rfl rfl

theorem execFrameWhileRequestInHand_kept (h : execFrameWhileRequestInHand s = .next t) :
    KeepsBooks s t :=
  event_kept h fun _ => by split <;> exact keepsBooks_of_frame rfl rfl rfl

theorem execStartMark_kept {line : Line} (h : execStartMark line s = .next t) : KeepsBooks s t :=
  event_kept h fun u => by
    split
    · exact .refl _
    · split <;> exact .refl _

theorem execReplySent_kept (h : execReplySent s = .next t) : KeepsBooks s t :=
  event_kept h fun _ => keepsBooks_of_frame rfl rfl rfl

theorem execTransferWatchExpiry_kept (h : execTransferWatchExpiry s = .next t) : KeepsBooks s t :=
  event_kept h fun _ => by split <;> exact keepsBooks_of_frame rfl rfl rfl

theorem execReaderFrameRejected_kept (cause : RejectCause)
    (h : execReaderFrameRejected cause s = .next t) : KeepsBooks s t :=
  event_kept h fun u => by
    split
    · exact .refl _
    · exact .of_eq (by simp [books])

theorem execVerdictSent_kept (h : execVerdictSent s = .next t) : KeepsBooks s t :=
  event_kept h fun u => by
    split
    · exact .of_eq (by simp [books])
    · exact .refl _

theorem execClockAdvance_kept (h : execClockAdvance s = .next t) : KeepsBooks s t :=
  event_kept h fun _ => keepsBooks_of_frame rfl rfl rfl

theorem execInputLevelChange_kept {i : Input} {closed : Bool}
    (h : execInputLevelChange c i closed s = .next t) : KeepsBooks s t :=
  event_kept h fun _ => keepsBooks_of_frame rfl rfl rfl

theorem execLiftOut_kept (h : execLiftOut c s = .next t) : KeepsBooks s t :=
  event_kept h fun u => by
    split
    · exact .refl _
    · exact liftTaken_kept u c

theorem execLiftIn_kept (h : execLiftIn c s = .next t) : KeepsBooks s t :=
  event_kept h fun u => by
    split
    · exact returnTaken_kept u c
    · exact .refl _

/-! ### The restarts (R173, R174) -/

theorem restartBlocks_kept (s : State) (block : State → State) (h : block ∈ restartBlocks) :
    KeepsBooks s (block s) := by
  simp only [restartBlocks, List.mem_cons, List.not_mem_nil, or_false] at h
  rcases h with rfl | rfl | rfl | rfl | rfl | rfl | rfl
  · exact foldl_kept s (fun u k => .of_eq (by simp only [restartSupervisor]; split <;> simp [books]))
      allColumns
  · exact restartMachines_kept s
  · exact .refl _
  · exact restartRound_kept s
  all_goals exact .refl _

theorem softRestart_kept (s : State) : KeepsBooks s (softRestart s) := by
  have hblocks (l : List (State → State)) (hl : ∀ block ∈ l, block ∈ restartBlocks) (u : State) :
      KeepsBooks u (l.foldl (fun s block => block s) u) := by
    induction l generalizing u with
    | nil => exact .refl _
    | cons block l ih =>
      exact (restartBlocks_kept u block (hl block List.mem_cons_self)).trans
        (ih (fun b hb => hl b (List.mem_cons_of_mem _ hb)) (block u))
  have hends (u : State) : books (endRestart u) = books u := rfl
  rw [KeepsBooks, softRestart, hends]
  exact hblocks restartBlocks (fun _ h => h) s

theorem restartNext_kept (s : State) : KeepsBooks s (restartNext s) := by
  have hblock : ∀ block rest, restartBlocks.drop s.restarted = block :: rest →
      KeepsBooks s (block s) := fun block rest h =>
    restartBlocks_kept s block (List.mem_of_mem_drop (h ▸ List.mem_cons_self))
  unfold restartNext
  split
  · exact .refl _
  case h_2 block h =>
    rw [KeepsBooks, books_chooseNext]
    exact hblock block [] h
  case h_3 block rest _ h =>
    rw [KeepsBooks, books_chooseNext]
    exact hblock block rest h

/-- A full reset leaves an empty manifest, no grant and an empty journal (R85, R133, R148). -/
theorem fullReset_kept (s : State) : KeepsBooks s (fullReset s) := by
  intro _
  have hfree : (books (fullReset s)).holding = fun _ => false := by
    funext c
    refine holding_free (.inl ?_)
    show (fullReset s).access[c].context = none
    simp only [fullReset, Fin.getElem_fin, Vector.getElem_ofFn, accessAfterReset, Access.restart]
    split <;> rfl
  refine ⟨⟨List.nodup_nil, Nat.zero_le _, fun _ _ h => nomatch h⟩, fun _ => ⟨?_, Nat.zero_le _⟩⟩
  simp only [Books.granted, hfree]
  simp [books, fullReset, State.reset, Journal.reset, Round.reset, Books.unfinished]

/-! ### Every command and every step -/

theorem exec_kept (i : Instr) (h : exec i s = .next t) : KeepsBooks s t := by
  cases i with
  | identify body => exact request_kept h (withNoBody_kept fun _ => .refl _)
  | status body => exact request_kept h (withNoBody_kept fun _ => .refl _)
  | restart body => exact request_kept h (withNoBody_kept fun _ => .refl _)
  | softRestart => exact event_kept h softRestart_kept
  | timeSet body => exact request_kept h (timeSet_kept body)
  | periodSet body => exact request_kept h (withTwoBytes_kept fun _ _ _ => .refl _)
  | profileWrite body => exact request_kept h (profileWrite_kept body)
  | profileRead body => exact request_kept h (profileRead_kept body)
  | alertFetch body => exact request_kept h (alertFetch_kept body)
  | alertFloor body => exact request_kept h (alertFloor_kept body)
  | tableWrite body => exact request_kept h (transferRequest_kept body .write)
  | tableData more body => exact request_kept h (tableData_kept body more)
  | tableVerify body => exact request_kept h (transferRequest_kept body .verify)
  | tableErase body => exact request_kept h (tableErase_kept body)
  | tableSum body => exact request_kept h (tableSum_kept body)
  | tablePin body => exact request_kept h (tablePin_kept body)
  | tableRelease body => exact request_kept h (tableRelease_kept body)
  | cardQuery body => exact request_kept h (cardQuery_kept body)
  | cardModify body => exact request_kept h (cardModify_kept body)
  | columnRead body => exact request_kept h (withColumn_kept fun _ _ => .refl _)
  | columnService body => exact request_kept h (columnService_kept body)
  | columnWithdraw body => exact request_kept h (columnWithdraw_kept body)
  | columnMeasure body => exact request_kept h (columnMeasure_kept body)
  | roundOpen body => exact request_kept h (roundOpen_kept body)
  | roundClaim body => exact request_kept h (roundClaim_kept body)
  | roundSkip body => exact request_kept h (roundSkip_kept body)
  | roundKeep body => exact request_kept h (roundKeep_kept body)
  | roundClose body => exact request_kept h (roundClose_kept body)
  | roundRead body => exact request_kept h (withNoBody_kept fun _ => .refl _)
  | journalRead body => exact request_kept h (journalRead_kept body)
  | journalRelease body => exact request_kept h (journalRelease_kept body)
  | checkError => exact execCheckError_kept h
  | unknownKind kind => exact request_kept h fun _ => .refl _
  | frameWhileRequestInHand => exact execFrameWhileRequestInHand_kept h
  | frameDiscard line cause => exact event_kept h fun _ => discardFrame_kept line
  | interbyteGap line => exact execInterbyteGap_kept h
  | replySent => exact execReplySent_kept h
  | transferWatchExpiry => exact execTransferWatchExpiry_kept h
  | present c card => exact execPresent_kept h
  | readerFrameRejected cause => exact execReaderFrameRejected_kept cause h
  | verdictSent => exact execVerdictSent_kept h
  | fullReset => cases h; exact fullReset_kept s
  | clockAdvance => exact execClockAdvance_kept h
  | inputLevelChange c i closed => exact execInputLevelChange_kept h
  | hatchOpened c => exact execHatchOpened_kept h
  | hatchClosed c => exact execHatchClosed_kept h
  | liftOut c => exact execLiftOut_kept h
  | liftIn c => exact execLiftIn_kept h
  | latchContactChange c k made => exact execLatchContactChange_kept h
  | latchTravelTimeout c => exact execLatchTravelTimeout_kept h
  | grantTimerExpiry c => exact execGrantTimerExpiry_kept h
  | openTimerExpiry c => exact execOpenTimerExpiry_kept h
  | latchRestExpiry c => exact execLatchRestExpiry_kept h
  | ping => exact event_kept h fun u => .of_eq (books_firePing u)
  | echo counter => exact execEcho_kept h
  | noEcho => exact execNoEcho_kept h
  | scanPauseExpiry => exact execScanPauseExpiry_kept h
  | supervisionTimerExpiry => exact execSupervisionTimerExpiry_kept h
  | settleTimerExpiry => exact execSettleTimerExpiry_kept h
  | startMark line => exact execStartMark_kept h

theorem takeDue_kept {i : Instr} (h : takeDue i s = .next t) : KeepsBooks s t := by
  unfold takeDue at h
  split at h
  · cases h; exact restartNext_kept s
  · exact exec_kept i h

theorem arrive_kept {line : Line} {heard : Heard} (h : arrive line heard s = .next t) :
    KeepsBooks s t := by
  unfold arrive at h
  split at h
  · cases h; exact .refl _
  · split at h
    · cases h; exact .of_eq (by simp [books])
    · exact exec_kept _ h

theorem tick_kept (h : tick s = .next t) : KeepsBooks s t := by
  rcases tick_cases s with ⟨-, ht⟩ | ⟨-, line, heard, rest, -, hline⟩ | ⟨-, -, -, ht⟩ |
    ⟨-, -, i, -, ht⟩
  · rw [ht] at h; cases h
    exact .of_eq (books_chooseNext s)
  · rcases hline with ⟨-, ht⟩ | ⟨r, -, -, ht⟩
    · exact arrive_kept (s := { s with arriving := rest }) (ht ▸ h)
    · exact exec_kept _ (ht ▸ h)
  · rw [ht] at h; cases h
    exact .refl _
  · exact takeDue_kept (s := { s with draws := s.draws + 1 }) (ht ▸ h)

/-- Every step keeps the manifest's law, and under it the journal's count. -/
theorem step_kept (h : step s = .next t) : KeepsBooks s t := by
  unfold step at h
  split at h
  · exact tick_kept h
  case h_2 i rest _ => exact exec_kept (s := { s with pending := rest }) i h

/-- Every step keeps the manifest's law alone (R111). -/
theorem step_keeps_roundLaw (h : step s = .next t) (hs : RoundLaw s) : RoundLaw t := (step_kept h hs).1

end

/-- Settles O56: every change of the books keeps the manifest's law, and with it the count and the room. -/
theorem stepKeepsJournalLaw : Obligations.StepKeepsJournalLaw := by
  intro s t h hs
  obtain ⟨horderly, hcounted⟩ := (journalLaw_iff s).mp hs
  obtain ⟨horderly', hkeeps⟩ := step_kept h horderly
  exact (journalLaw_iff t).mpr ⟨horderly', hkeeps hcounted⟩

end Sys2Proof.Proofs.EmptyingRounds
end

section
/-! Proofs, RoundOpening: ROUND OPEN, its checks and the record it makes (R112, R140). -/

namespace Sys2Proof.Proofs.EmptyingRounds

open Sys2Proof Sys2Proof.Machine

/-! ### The columns of a request (R112) -/

/-- The column a byte below 12 names. -/
def listedColumn (b : Byte) : Column := Fin.ofNat 12 b.toNat

theorem listedColumn_val {b : Byte} (h : b.toNat < 12) : (listedColumn b).val = b.toNat :=
  Nat.mod_eq_of_lt h

theorem columnOf_listed {b : Byte} (h : b.toNat < 12) : columnOf b = some (listedColumn b) := by
  rw [columnOf, dif_pos h]
  exact congrArg some (Fin.ext (listedColumn_val h).symm)

theorem columnOf_none {b : Byte} (h : 12 ≤ b.toNat) : columnOf b = none := dif_neg (by omega)

theorem columnsOf_listed {cs : List Byte} (h : ∀ b ∈ cs, b.toNat < 12) :
    columnsOf cs = some (cs.map listedColumn) := by
  induction cs with
  | nil => rfl
  | cons b cs ih =>
    obtain ⟨hb, hcs⟩ := List.forall_mem_cons.mp h
    simp only [columnsOf, columnOf_listed hb, ih hcs, List.map_cons]

theorem columnsOf_none {cs : List Byte} (h : ∃ b ∈ cs, 12 ≤ b.toNat) : columnsOf cs = none := by
  induction cs with
  | nil => simp at h
  | cons b cs ih =>
    unfold columnsOf
    rcases (List.exists_mem_cons_iff _ b cs).mp h with hb | hcs
    · rw [columnOf_none hb]
    · rw [ih hcs]
      split <;> simp_all

/-- Bytes below 12 name a column twice only if one stands twice. -/
theorem listedColumns_nodup {cs : List Byte} (h : ∀ b ∈ cs, b.toNat < 12) :
    (cs.map listedColumn).Nodup ↔ cs.Nodup := by
  refine ⟨List.Nodup.of_map _, List.Nodup.map_on fun a ha b hb hab => ?_⟩
  have hval := congrArg Fin.val hab
  rw [listedColumn_val (h a ha), listedColumn_val (h b hb)] at hval
  exact BitVec.eq_of_toNat_eq hval

/-- The values of a request that R112 refuses. -/
def BadOpen (s : State) (id : BitVec 16) (n : Byte) (cs : List Byte) : Prop :=
  id = 0 ∨ n.toNat = 0 ∨ 12 < n.toNat ∨ (∃ b ∈ cs, 12 ≤ b.toNat) ∨ ¬cs.Nodup ∨
    ∃ b ∈ cs, ∃ c : Column, c.val = b.toNat ∧ s.sups[c].condition = .disabled

section
variable {s : State} {id : BitVec 16} {n : Byte} {cs : List Byte}

/-- None of the columns listed is DISABLED. -/
theorem listedColumns_enabled (h : ∀ b ∈ cs, b.toNat < 12) :
    (cs.map listedColumn).all (fun c => decide (s.sups[c].condition ≠ .disabled)) = true ↔
      ¬∃ b ∈ cs, ∃ c : Column, c.val = b.toNat ∧ s.sups[c].condition = .disabled := by
  simp only [List.all_map, List.all_eq_true, Function.comp_apply, decide_eq_true_eq, not_exists,
    not_and]
  refine forall₂_congr fun b hb => ⟨fun henabled c hc => ?_, fun henabled => ?_⟩
  · rwa [Fin.ext (hc.trans (listedColumn_val (h b hb)).symm)]
  · exact henabled _ (listedColumn_val (h b hb))

/-- The checks of R112 on the values of a request. -/
theorem roundColumns_bad (h : BadOpen s id n cs) : roundColumns s id n cs = none := by
  unfold roundColumns
  split
  · rfl
  case isFalse hhead =>
    by_cases hrange : ∃ b ∈ cs, 12 ≤ b.toNat
    · rw [columnsOf_none hrange]
    · have hbelow : ∀ b ∈ cs, b.toNat < 12 := by simpa using hrange
      rw [columnsOf_listed hbelow]
      refine if_neg fun ⟨hnodup, henabled⟩ => ?_
      rcases h with hid | hzero | hmany | hbyte | hdup | hdisabled
      · exact hhead (.inl hid)
      · exact hhead (.inr (.inl hzero))
      · exact hhead (.inr (.inr hmany))
      · exact hrange hbyte
      · exact hdup ((listedColumns_nodup hbelow).mp hnodup)
      · exact (listedColumns_enabled hbelow).mp henabled hdisabled

theorem roundColumns_good (h : ¬BadOpen s id n cs) :
    roundColumns s id n cs = some (cs.map listedColumn) := by
  simp only [BadOpen, not_or] at h
  obtain ⟨hid, hzero, hmany, hrange, hnodup, henabled⟩ := h
  have hbelow : ∀ b ∈ cs, b.toNat < 12 := by simpa using hrange
  rw [roundColumns, if_neg (by tauto), columnsOf_listed hbelow]
  exact if_pos ⟨(listedColumns_nodup hbelow).mpr (not_not.mp hnodup),
    (listedColumns_enabled hbelow).mpr henabled⟩

end

/-! ### ROUND OPEN (R112, R140) -/

section
variable {s : State} {i1 i0 v3 v2 v1 v0 n : Byte} {cs : List Byte}

theorem roundOpen_active (hlength : cs.length = n.toNat) (hopen : s.round.state = .open) :
    roundOpen ([i1, i0, v3, v2, v1, v0, n] ++ cs) s = refuse .roundActive s :=
  (if_neg (not_not.mpr hlength)).trans (if_pos hopen)

theorem roundOpen_bad (hlength : cs.length = n.toNat) (hclosed : s.round.state ≠ .open)
    (hbad : BadOpen s (i1 ++ i0) n cs) :
    roundOpen ([i1, i0, v3, v2, v1, v0, n] ++ cs) s = refuse .badValue s := by
  simp only [roundOpen, List.cons_append, List.nil_append, hlength, hclosed,
    roundColumns_bad hbad, ne_eq, not_true_eq_false, if_false]

/-- A request whose values are good is a matter of the journal's room. -/
theorem roundOpen_good (hlength : cs.length = n.toNat) (hclosed : s.round.state ≠ .open)
    (hgood : ¬BadOpen s (i1 ++ i0) n cs) :
    roundOpen ([i1, i0, v3, v2, v1, v0, n] ++ cs) s =
      if 2048 < s.journal.sum + n.toNat then refuse .journalFull s
      else (openRound (i1 ++ i0) (v3 ++ v2 ++ v1 ++ v0) (cs.map listedColumn) s,
        answer .ok [i1, i0, n]) := by
  simp only [roundOpen, List.cons_append, List.nil_append, hlength, hclosed,
    roundColumns_good hgood, ne_eq, not_true_eq_false, if_false, List.length_map]

end

/-- Settles O29, by the checks of R112 in order: each refuses the request or leaves it to the next. -/
theorem roundOpened : Obligations.RoundOpened := by
  intro s i1 i0 v3 v2 v1 v0 n cs hs hi hlength
  have hreply : (0xB0 : Byte) ≠ 0x83 := by decide
  refine ⟨fun hopen => ?_, fun hclosed hbad => ?_, fun hclosed hgood hfull => ?_,
    fun hclosed hgood hroom => ?_⟩
  · exact CardTables.served_unchanged hs hi hreply (roundOpen_active (s := hostFrameEnds s) hlength hopen)
  · exact CardTables.served_unchanged hs hi hreply (roundOpen_bad (s := hostFrameEnds s) hlength hclosed hbad)
  · exact CardTables.served_unchanged hs hi hreply
      ((roundOpen_good (s := hostFrameEnds s) hlength hclosed hgood).trans (if_pos hfull))
  · refine (ClockPeriod.served_changed hs hi hreply
      ((roundOpen_good (s := hostFrameEnds s) hlength hclosed hgood).trans (if_neg (not_lt.mpr hroom)))).trans ?_
    simp only [openRound, List.length_map, List.map_map, hlength]
    rfl

end Sys2Proof.Proofs.EmptyingRounds
end

section
/-! Proofs, RoundClosing: ROUND KEEP and ROUND CLOSE (R116, R128, R130, R147). -/

namespace Sys2Proof.Proofs.EmptyingRounds

open Sys2Proof Sys2Proof.Machine

/-! ### The PENDING entries made DONE -/

/-- The status of an entry not yet claimed (R110). -/
def isPending (st : EntryStatus) : Bool := decide (st = .pending)

theorem finishIf_pending (o : EntryOutcome) (e : ManifestEntry) :
    finishIf isPending o e = if e.status = .pending then e.finish o none none false else e := by
  simp [finishIf, isPending]

theorem pending_eq (r : Round) : r.pending = (entriesWith isPending r).map (·.column) := rfl

/-- That the appends reach the mark, as a proposition. -/
theorem reachesHigh_eq (j : Journal) (n : Nat) :
    reachesHigh j n =
      decide (j.highArmed = true ∧ j.records.length < 1792 ∧ 1792 ≤ j.records.length + n) := by
  simp only [reachesHigh, Bool.decide_and, Bool.decide_eq_true, Bool.and_assoc]

/-- Where no entry is ACTIVE, the round is changed in its PENDING entries alone. -/
theorem finishWhere_pending (o : EntryOutcome) (r : Round) :
    finishWhere isPending o r =
      { r with manifest := r.manifest.map fun e =>
          if e.status = .pending then e.finish o none none false else e } := by
  simp only [finishWhere, funext (finishIf_pending o)]
  rfl

/-! ### ROUND KEEP and ROUND CLOSE (R116, R130) -/

section
variable {s : State}

theorem roundKeep_refused (h : s.round.state ≠ .open) : roundKeep [] s = refuse .noRound s :=
  if_pos h

theorem roundKeep_open (h : s.round.state = .open) :
    roundKeep [] s = (reloadSupervision s, answer .ok (bytes 2 s.profile.keepTime)) :=
  if_neg (not_not.mpr h)

theorem roundClose_refused (h : s.round.state ≠ .open) : roundClose [] s = refuse .noRound s :=
  if_pos h

theorem roundClose_active (h : s.round.state = .open) (ha : s.round.active.isSome = true) :
    roundClose [] s = refuse .entryActive s :=
  (if_neg (not_not.mpr h)).trans (if_pos ha)

/-- An accepted ROUND CLOSE skips the PENDING entries, all at once. -/
theorem roundClose_open (h : s.round.state = .open) (ha : s.round.active = none)
    (hn : (s.round.manifest.map (·.column)).Nodup) :
    roundClose [] s =
      (raiseAlert .roundEnded none (leaveOpen .closed (finishedWhere isPending .skipped s)),
        answer .ok [byte (entriesWith isPending s.round).length]) := by
  rw [← finishAll_eq rfl hn, ← List.length_map (·.column), ← pending_eq]
  exact (if_neg (not_not.mpr h)).trans (if_neg (by simp [ha]))

end

/-- Settles O32: what ROUND CLOSE makes of the PENDING entries one by one it makes of them all at once. -/
theorem roundKeptAndClosed : Obligations.RoundKeptAndClosed := by
  intro s hs hi
  have hkeep : (0xB3 : Byte) ≠ 0x83 := by decide
  have hclose : (0xB4 : Byte) ≠ 0x83 := by decide
  refine ⟨fun hclosed => ⟨?_, ?_⟩, fun hopen => ?_, fun hopen hactive => ?_,
    fun hopen hactive hnodup => ?_⟩
  · exact CardTables.served_unchanged hs hi hkeep (roundKeep_refused (s := hostFrameEnds s) hclosed)
  · exact CardTables.served_unchanged hs hi hclose
      (roundClose_refused (s := hostFrameEnds s) hclosed)
  · exact ClockPeriod.served_changed hs hi hkeep (roundKeep_open (s := hostFrameEnds s) hopen)
  · exact CardTables.served_unchanged hs hi hclose
      (roundClose_active (s := hostFrameEnds s) hopen hactive)
  · refine (ClockPeriod.served_changed hs hi hclose
      (roundClose_open (s := hostFrameEnds s) hopen hactive hnodup)).trans ?_
    simp only [finishedWhere, finishWhere_pending, journalAfter, alertsAfter, reachesHigh_eq,
      decide_eq_true_eq]
    rfl

end Sys2Proof.Proofs.EmptyingRounds
end

section
/-! Proofs, RoundSkipping: ROUND SKIP (R129). -/

namespace Sys2Proof.Proofs.EmptyingRounds

open Sys2Proof Sys2Proof.Machine Sys2Proof.Proofs.AccessMachines

/-! ### The checks of a skip (R129) -/

/-- The stages past the lift. -/
theorem pastLift_iff (stage : Option Stage) :
    stage.any Stage.pastLift = true ↔
      stage = some .lifted ∨ stage = some .settling ∨ stage = some .measuring := by
  rcases stage with - | (_ | _ | _ | _ | _) <;> simp [Stage.pastLift]

section
variable {s : State} {n : Byte} {c : Column} {e : ManifestEntry}

theorem skipRefusal_closed (h : s.round.state ≠ .open) : skipRefusal s c = some .noRound := if_pos h

theorem skipRefusal_unlisted (h : s.round.state = .open) (he : s.round.entryOf c = none) :
    skipRefusal s c = some .notOnRound := by
  simp [skipRefusal, h, he]

theorem skipRefusal_late (h : s.round.state = .open) (he : s.round.entryOf c = some e)
    (hlate : e.status = .done ∨ e.status = .active ∧ s.round.stage.any Stage.pastLift = true) :
    skipRefusal s c = some .wrongState := by
  simp only [skipRefusal, h, he, ne_eq, not_true_eq_false, if_false]
  rcases hlate with hdone | hactive
  · rw [if_pos hdone]
  · rw [if_pos hactive]
    split <;> rfl

theorem skipRefusal_owed (h : s.round.state = .open) (he : s.round.entryOf c = some e)
    (howed : e.status = .pending ∨ e.status = .active ∧ ¬s.round.stage.any Stage.pastLift = true) :
    skipRefusal s c = none := by
  simp only [skipRefusal, h, he, ne_eq, not_true_eq_false, if_false]
  rcases howed with hpending | ⟨hactive, hearly⟩
  · simp [hpending]
  · simp [hactive, hearly]

theorem roundSkip_badColumn (h : 12 ≤ n.toNat) : roundSkip [n] s = refuse .badValue s := by
  simp only [roundSkip, withColumn, withByte, columnOf_none h]

theorem columnOf_column (h : n.toNat = c.val) : columnOf n = some c := by
  rw [columnOf, dif_pos (by omega)]
  exact congrArg some (Fin.ext h)

theorem roundSkip_refused {st : Status} (hn : n.toNat = c.val) (h : skipRefusal s c = some st) :
    roundSkip [n] s = refuse st s := by
  simp only [roundSkip, withColumn, withByte, columnOf_column hn, h]

theorem roundSkip_accepted (hn : n.toNat = c.val) (h : skipRefusal s c = none) :
    roundSkip [n] s = (skip c s, answer .ok []) := by
  simp only [roundSkip, withColumn, withByte, columnOf_column hn, h]

end

/-! ### What a skipped column gives back (R12, R81, R129) -/

/-- The part once a claimed column has given back its drain or its permit. -/
def givenBack (c : Column) (s : State) : State :=
  if s.round.inStage c .draining then endDrain c s
  else if s.round.inStage c .permitted then withdrawPermit c s
  else s

theorem skip_eq (s : State) (c : Column) :
    skip c s =
      chooseNext (reloadSupervision (finishEntry c .skipped none none false (givenBack c s))) := rfl

section
variable (s : State) (c : Column)

@[simp] theorem givenBack_frame :
    (givenBack c s).round = s.round ∧ (givenBack c s).journal = s.journal ∧
      (givenBack c s).now = s.now ∧ (givenBack c s).clock = s.clock ∧
      (givenBack c s).period = s.period ∧ (givenBack c s).profile = s.profile ∧
      (givenBack c s).fills = s.fills ∧ (givenBack c s).alerts = s.alerts := by
  unfold givenBack
  split
  · simp
  · split <;> simp

theorem endDrain_machine :
    (endDrain c s).access[c].drainMark = false ∧
      (endDrain c s).access[c].state = s.access[c].state := by
  unfold endDrain
  split
  · simp
  case isFalse h => exact ⟨Bool.eq_false_iff.mpr h, rfl⟩

theorem withdrawPermit_permit : (withdrawPermit c s).sups[c].permit = false := by
  have hpermit (p : Supervisor) : p.withdrawPermit.permit = false := by
    unfold Supervisor.withdrawPermit
    split
    · rfl
    case isFalse h => exact Bool.eq_false_iff.mpr h
  simp [withdrawPermit, hpermit]

end

section
variable {s : State} {c : Column} {e : ManifestEntry}

theorem givenBack_draining (hclaims : s.round.claims c = true)
    (hstage : s.round.stage = some .draining) : givenBack c s = endDrain c s :=
  if_pos (by simp [Round.inStage, hclaims, hstage])

theorem givenBack_permitted (hclaims : s.round.claims c = true)
    (hstage : s.round.stage = some .permitted) : givenBack c s = withdrawPermit c s := by
  simp [givenBack, Round.inStage, hclaims, hstage]

/-- A column not claimed has nothing to give back. -/
theorem givenBack_unclaimed (h : s.round.claims c = false) : givenBack c s = s := by
  simp [givenBack, Round.inStage, h]

/-- A column listed once is claimed by its entry alone. -/
theorem claims_entryOf (hn : (s.round.manifest.map (·.column)).Nodup)
    (he : s.round.entryOf c = some e) : s.round.claims c = true ↔ e.status = .active := by
  obtain ⟨hmem, hcolumn⟩ := entryOf_mem he
  rw [claims_iff]
  refine ⟨fun ⟨d, hd, hdcolumn, hactive⟩ => ?_, fun hactive => ⟨e, hmem, hcolumn, hactive⟩⟩
  rwa [List.inj_on_of_nodup_map hn hmem hd (hcolumn.trans hdcolumn.symm)]

/-! ### The supervision timer after a skip (R114, R129) -/

/-- A PENDING entry made DONE leaves the active entry, and so the timer's condition, as they were. -/
theorem finishOne_pending_counts (hn : (s.round.manifest.map (·.column)).Nodup)
    (hmem : e ∈ s.round.manifest) (hpending : e.status = .pending) (o : EntryOutcome) :
    (finishOne e (.finish o none none false) s.round).shouldCount = s.round.shouldCount := by
  obtain ⟨before, after, hm⟩ := List.append_of_mem hmem
  have hmanifest := modEntry_split hn hm (.finish o none none false)
  have hactive : (s.round.modEntry e.column (.finish o none none false)).active.isNone =
      s.round.active.isNone := by
    simp [Round.active, hmanifest, hm, List.find?_append, hpending, ManifestEntry.finish]
  rw [finishOne, if_neg (by simp [hpending]), Round.shouldCount, hactive]
  rfl

/-- With the active entry DONE no entry is ACTIVE, and the timer counts. -/
theorem finishOne_active_counts (ho : RoundLaw s) (hopen : s.round.state = .open)
    (hmem : e ∈ s.round.manifest) (hactive : e.status = .active) (o : EntryOutcome) :
    (finishOne e (.finish o none none false) s.round).shouldCount = true := by
  obtain ⟨hn, hone, -⟩ := ho
  obtain ⟨before, after, hm⟩ := List.append_of_mem hmem
  have hothers := inactive_beside hone hm hactive
  obtain ⟨hmanifest, hstate, -⟩ := finishOne_frame e (.finish o none none false) s.round
  rw [modEntry_split hn hm] at hmanifest
  have hnone : (finishOne e (.finish o none none false) s.round).active = none := by
    simp only [List.mem_append] at hothers
    rw [Round.active, hmanifest, List.find?_eq_none]
    simp only [List.mem_append, List.mem_cons, decide_eq_true_eq]
    rintro x (hx | rfl | hx)
    · exact hothers x (.inl hx)
    · nofun
    · exact hothers x (.inr hx)
  simp [Round.shouldCount, hstate, hopen, hnone]

/-- When the timer counts after a skip of an entry that is not DONE. -/
theorem finishOne_counts (ho : RoundLaw s) (hopen : s.round.state = .open)
    (hmem : e ∈ s.round.manifest) (howed : e.status = .pending ∨ e.status = .active)
    (o : EntryOutcome) :
    (finishOne e (.finish o none none false) s.round).shouldCount = true ↔
      ¬(e.status = .pending ∧ s.round.active.isSome = true ∧
        s.round.stage ≠ some .draining ∧ s.round.stage ≠ some .permitted) := by
  rcases howed with hpending | hactive
  · rw [finishOne_pending_counts ho.1 hmem hpending]
    cases ha : s.round.active <;> simp [Round.shouldCount, hopen, hpending, ha]
    tauto
  · simp [finishOne_active_counts ho hopen hmem hactive, hactive]

/-! ### An accepted skip (R129) -/

/-- An accepted skip ends the entry, its record joins the journal, and the timer is reloaded. -/
theorem skip_finished (he : s.round.entryOf c = some e) :
    (skip c s).round =
        (let round := finishOne e (.finish .skipped none none false) s.round
         let keep := seconds s.profile.keepTime
         { round with supervision :=
            if round.shouldCount then .counting (s.now + keep) else .held keep }) ∧
      (skip c s).journal =
        s.journal.append (emptyingRecord s e .skipped none none false) (reachesHigh s.journal 1) ∧
      (skip c s).access = (givenBack c s).access ∧ (skip c s).sups = (givenBack c s).sups := by
  obtain ⟨hround, hjournal, hnow, hclock, hperiod, hprofile, hfills, -⟩ := givenBack_frame s c
  rw [skip_eq, finishEntry_eq (s := givenBack c s) (hround ▸ he)]
  simp [reloadSupervision, emptyingRecord, emptyingBody, stampRecord]

/-- The round after a skip stays OPEN, with the column's entry SKIPPED (R129). -/
theorem skip_round (hopen : s.round.state = .open) (he : s.round.entryOf c = some e) :
    (∃ d, (skip c s).round.entryOf c = some d ∧ d.status = .done ∧ d.outcome = some .skipped ∧
      d.failReason = none ∧ d.fillAfter = none) ∧ (skip c s).round.state = .open := by
  obtain ⟨hmanifest, hstate, -⟩ := finishOne_frame e (.finish .skipped none none false) s.round
  have hcolumn : e.column = c := (entryOf_mem he).2
  rw [(skip_finished he).1]
  refine ⟨⟨e.finish .skipped none none false, ?_, rfl, rfl, rfl, rfl⟩, hstate.trans hopen⟩
  rw [Round.entryOf, hmanifest, hcolumn]
  exact RangingEngine.entryOf_modEntry c he fun _ => rfl

/-- A claimed column gives back its permit or its drain; a column not claimed keeps its machine. -/
theorem skip_column (hn : (s.round.manifest.map (·.column)).Nodup)
    (he : s.round.entryOf c = some e) :
    (e.status = .active → s.round.stage = some .permitted → (skip c s).sups[c].permit = false) ∧
      (e.status = .active → s.round.stage = some .draining →
        (skip c s).access[c].drainMark = false ∧
          (skip c s).access[c].state = s.access[c].state) ∧
      (e.status = .pending → (skip c s).access = s.access ∧ (skip c s).sups = s.sups) := by
  obtain ⟨-, -, haccess, hsups⟩ := skip_finished he
  have hclaims := claims_entryOf hn he
  rw [haccess, hsups]
  refine ⟨fun hactive hstage => ?_, fun hactive hstage => ?_, fun hpending => ?_⟩
  · rw [givenBack_permitted (hclaims.mpr hactive) hstage]
    exact withdrawPermit_permit s c
  · rw [givenBack_draining (hclaims.mpr hactive) hstage]
    exact endDrain_machine s c
  · rw [givenBack_unclaimed (Bool.eq_false_iff.mpr fun h => by simp [hclaims.mp h] at hpending)]
    exact ⟨rfl, rfl⟩

/-- The record of a skip (R128). -/
theorem skip_record (he : s.round.entryOf c = some e) :
    (skip c s).journal.records = s.journal.records ++
      [{ seq := s.journal.nextSeq, column := c, time := s.clock.reading,
         flags := { timeUnset := !s.clock.timeSet, late := false, interrupted := false,
                    provisional := false, residue := false, fillAfterPresent := false },
         period := s.period,
         body := .emptying (s.round.id.getD 0) (s.round.vehicle.getD 0) .skipped none
           (e.fillBefore.getD s.fills[c].estimate) none }] := by
  obtain ⟨-, hcolumn⟩ := entryOf_mem he
  subst hcolumn
  rw [(skip_finished he).2.1]
  rfl

/-- The supervision timer after a skip: reloaded, and held only while another entry is past its lift
(R114, R129). -/
theorem skip_supervision (ho : RoundLaw s) (hopen : s.round.state = .open)
    (he : s.round.entryOf c = some e) (howed : e.status = .pending ∨ e.status = .active) :
    (skip c s).round.supervision =
      if e.status = .pending ∧ s.round.active.isSome = true ∧
          s.round.stage ≠ some .draining ∧ s.round.stage ≠ some .permitted then
        .held (s.profile.keepTime * 1000)
      else .counting (s.now + s.profile.keepTime * 1000) := by
  have hcounts := finishOne_counts ho hopen (entryOf_mem he).1 howed .skipped
  rw [(skip_finished he).1]
  dsimp only
  rw [if_congr hcounts rfl rfl, ite_not]
  rfl

end

/-- Settles O31: a skip that is not refused ends its entry after the column has given back what it held. -/
theorem roundSkipped : Obligations.RoundSkipped := by
  intro s n hs hi
  have hreply : (0xB2 : Byte) ≠ 0x83 := by decide
  refine ⟨fun h => CardTables.served_unchanged hs hi hreply (roundSkip_badColumn h),
    fun c hn => ?_⟩
  have hrefused (st : Status) (h : skipRefusal (hostFrameEnds s) c = some st) :
      exec (.roundSkip [n]) s = .next (s.answered 0xB2 (answer st [])) :=
    CardTables.served_unchanged hs hi hreply (roundSkip_refused hn h)
  refine ⟨fun hclosed => hrefused .noRound (skipRefusal_closed hclosed),
    fun hopen he => hrefused .notOnRound (skipRefusal_unlisted hopen he),
    fun e hopen he => ⟨fun hlate => ?_, fun howed hnodup => ?_⟩⟩
  · rw [← pastLift_iff] at hlate
    exact hrefused .wrongState (skipRefusal_late hopen he hlate)
  · rw [← pastLift_iff] at howed
    have hstatus : e.status = .pending ∨ e.status = .active := howed.imp_right And.left
    have haccepted : roundSkip [n] (hostFrameEnds s) = _ :=
      roundSkip_accepted hn (skipRefusal_owed hopen he howed)
    obtain ⟨hentry, hstate⟩ := skip_round (s := hostFrameEnds s) hopen he
    exact ⟨_, ClockPeriod.served_changed hs hi hreply haccepted, rfl, hentry,
      skip_record (s := hostFrameEnds s) he,
      congrArg Journal.reservations (skip_finished (s := hostFrameEnds s) he).2.1, hstate,
      fun ho => skip_supervision (s := hostFrameEnds s) ho hopen he hstatus,
      skip_column (s := hostFrameEnds s) hnodup he⟩

end Sys2Proof.Proofs.EmptyingRounds
end

section
/-! Proofs, RoundAbort: the supervision timer's expiry aborts the round (R114, R115, R151). -/

namespace Sys2Proof.Proofs.EmptyingRounds

open Sys2Proof Sys2Proof.Machine Sys2Proof.Proofs.AccessMachines

/-! ### The alert of the abort (R147, R151) -/

/-- The list holds at most the one alert of the journal's high mark. -/
def OnlyHigh (a : AlertList) : Prop :=
  a.entries.length ≤ 1 ∧ ∀ e ∈ a.entries, e.matches .journalHigh none = true

section
variable {a : AlertList} {t : Reading}

theorem OnlyHigh.of_empty (h : a.entries = []) : OnlyHigh a := by simp [OnlyHigh, h]

/-- JOURNAL HIGH raised again is coalesced. -/
theorem OnlyHigh.raise_high (h : OnlyHigh a) : OnlyHigh (a.raise .journalHigh none t) := by
  obtain ⟨hlength, hmatch⟩ := h
  unfold AlertList.raise
  dsimp only
  split
  · refine ⟨by simpa using hlength, fun e he => ?_⟩
    obtain ⟨d, hd, rfl⟩ := List.mem_map.mp he
    rw [if_pos (hmatch d hd)]
    exact hmatch d hd
  case isFalse hnone =>
    have hempty : a.entries = [] := List.eq_nil_iff_forall_not_mem.mpr fun e he =>
      hnone (List.any_eq_true.mpr ⟨e, he, hmatch e he⟩)
    simp [OnlyHigh, hempty, AlertEntry.matches]

theorem OnlyHigh.alertsAfter {s : State} (h : OnlyHigh s.alerts) (n : Nat) :
    OnlyHigh (alertsAfter s n) := by
  unfold EmptyingRounds.alertsAfter
  split
  · exact h.raise_high
  · exact h

/-- ROUND ABORTED raised beside it is a new entry. -/
theorem OnlyHigh.raise_aborted (h : OnlyHigh a) :
    (⟨.roundAborted, none, 1, t, t⟩ : AlertEntry) ∈ (a.raise .roundAborted none t).entries := by
  obtain ⟨hlength, hmatch⟩ := h
  have hnew : ¬a.entries.any (AlertEntry.matches .roundAborted none) = true := by
    rw [List.any_eq_true]
    rintro ⟨e, he, habort⟩
    have hhigh := hmatch e he
    simp_all [AlertEntry.matches]
  have hroom : a.entries.length < 32 := by omega
  simp [AlertList.raise, hnew, hroom]

end

/-! ### The round aborted (R115) -/

section
variable (s : State)

@[simp] theorem timeOutActive_clock : (timeOutActive s).clock = s.clock := by
  unfold timeOutActive
  repeat' split
  all_goals simp

/-- The active column gives back its permit or its drain. -/
theorem timeOutActive_column {e : ManifestEntry} (he : s.round.active = some e) :
    (s.round.stage = some .permitted → (timeOutActive s).sups[e.column].permit = false) ∧
      (s.round.stage = some .draining → (timeOutActive s).access[e.column].drainMark = false) := by
  refine ⟨fun hstage => ?_, fun hstage => ?_⟩
  · simp only [timeOutActive, he, hstage, reduceCtorEq, Option.some.injEq, if_false, if_true]
    exact withdrawPermit_permit _ _
  · simp only [timeOutActive, he, hstage, if_true]
    exact (endDrain_machine _ _).1

section
variable {s : State} (ho : RoundLaw s)
include ho

theorem timeOutActive_nodup : ((timeOutActive s).round.manifest.map (·.column)).Nodup :=
  (timeOutActive_kept s ho).1.1

/-- After the active entry the PENDING ones are made DONE, all at once. -/
theorem abortRound_eq :
    abortRound s = raiseAlert .roundAborted none
      (leaveOpen .aborted (finishedWhere isPending .aborted (timeOutActive s))) := by
  rw [← finishAll_eq rfl (timeOutActive_nodup ho)]
  rfl

theorem abortRound_round :
    (abortRound s).round =
      { (timeOutActive s).round with
        state := .aborted, supervision := .held 0,
        manifest := (timeOutActive s).round.manifest.map (finishIf isPending .aborted) } := by
  rw [abortRound_eq ho]
  rfl

theorem abortRound_manifest :
    (abortRound s).round.manifest =
      (timeOutActive s).round.manifest.map (finishIf isPending .aborted) := by
  rw [abortRound_round ho]

theorem abortRound_done : ∀ e ∈ (abortRound s).round.manifest, e.status = .done := by
  rw [abortRound_manifest ho]
  intro e he
  obtain ⟨d, hd, rfl⟩ := List.mem_map.mp he
  have hinactive := timeOutActive_inactive s ho d hd
  refine finishIf_done fun hdone => decide_eq_true ?_
  cases hstatus : d.status with
  | pending => rfl
  | active => exact absurd hstatus hinactive
  | done => exact absurd hstatus hdone

/-- The columns listed stay listed. -/
theorem abortRound_columns :
    (abortRound s).round.manifest.map (·.column) = s.round.manifest.map (·.column) := by
  have htimeout : (timeOutActive s).round.manifest.map (·.column) =
      s.round.manifest.map (·.column) := by
    cases he : s.round.active with
    | none => rw [timeOutActive_none s he]
    | some e => rw [(timeOutActive_eq s he).1, finishEntry_columns]
  have hfinish : (fun e : ManifestEntry => (finishIf isPending .aborted e).column) =
      fun e => e.column := by
    funext e
    unfold finishIf
    split <;> rfl
  rw [abortRound_manifest ho, List.map_map, ← htimeout]
  exact congrArg (List.map · _) hfinish

/-- A listed entry is its column's after the abort too. -/
theorem abortRound_entryOf {d : ManifestEntry} (hd : d ∈ (abortRound s).round.manifest) :
    (abortRound s).round.entryOf d.column = some d :=
  entryOf_listed (by rw [abortRound_columns ho]; exact ho.1) hd

/-- The active entry has failed with TIMEOUT, and no stage is left (R115). -/
theorem abortRound_active {e : ManifestEntry} (he : s.round.active = some e) :
    (∃ d, (abortRound s).round.entryOf e.column = some d ∧ d.outcome = some .failed ∧
      d.failReason = some .timeout) ∧ (abortRound s).round.stage = none := by
  obtain ⟨hmem, hactive⟩ := active_mem he
  obtain ⟨before, after, -, -, hmanifest⟩ := timeOutActive_split s ho he
  refine ⟨⟨e.finish .failed (some .timeout) none false, ?_, rfl, rfl⟩, ?_⟩
  · refine abortRound_entryOf (d := e.finish .failed (some .timeout) none false) ho ?_
    rw [abortRound_manifest ho, hmanifest, List.map_append, List.map_cons]
    exact List.mem_append_right _ List.mem_cons_self
  · rw [abortRound_round ho, (timeOutActive_eq s he).1, finishEntry_eq (entryOf_listed ho.1 hmem)]
    simp only [finishOne, if_pos hactive]
    rfl

/-- A PENDING entry is untouched by the active one's end. -/
theorem pending_mem_timeOutActive {e : ManifestEntry} (hmem : e ∈ s.round.manifest)
    (hpending : e.status = .pending) : e ∈ (timeOutActive s).round.manifest := by
  cases ha : s.round.active with
  | none => rwa [timeOutActive_none s ha]
  | some a =>
    obtain ⟨-, hactive⟩ := active_mem ha
    obtain ⟨before, after, hm, -, hmanifest⟩ := timeOutActive_split s ho ha
    have hne : e ≠ a := fun h => by simp [h, hactive] at hpending
    rw [hm, List.mem_append, List.mem_cons] at hmem
    rw [hmanifest, List.mem_append, List.mem_cons]
    tauto

/-- A PENDING entry is ABORTED. -/
theorem abortRound_pending {e : ManifestEntry} (hmem : e ∈ s.round.manifest)
    (hpending : e.status = .pending) :
    ∃ d, (abortRound s).round.entryOf e.column = some d ∧ d.outcome = some .aborted := by
  refine ⟨e.finish .aborted none none false, ?_, rfl⟩
  refine abortRound_entryOf (d := e.finish .aborted none none false) ho ?_
  rw [abortRound_manifest ho, List.mem_map]
  exact ⟨e, pending_mem_timeOutActive ho hmem hpending, if_pos (decide_eq_true hpending)⟩

end

/-- Of entries none of which is ACTIVE the PENDING ones are those not DONE. -/
theorem filter_pending {l : List ManifestEntry} (h : ∀ e ∈ l, e.status ≠ .active) :
    (l.filter fun e => isPending e.status) = l.filter fun e => decide (e.status ≠ .done) :=
  List.filter_congr fun e he => by
    have hinactive := h e he
    cases hstatus : e.status with
    | pending => rfl
    | active => exact absurd hstatus hinactive
    | done => rfl

/-- The active entry's record and those of the PENDING entries join the journal: one for each entry that
owed one (R115, R128). -/
theorem abortRound_records (ho : RoundLaw s) :
    (abortRound s).journal.records.length = s.journal.records.length + entriesOwing s := by
  have hinactive := timeOutActive_inactive s ho
  have hrest : (abortRound s).journal.records.length =
      (timeOutActive s).journal.records.length + entriesOwing (timeOutActive s) := by
    rw [abortRound_eq ho, entriesOwing, ← filter_pending hinactive]
    simp [finishedWhere, leaveOpen, journalAfter, entriesWith]
  rw [hrest]
  cases he : s.round.active with
  | none => rw [timeOutActive_none s he]
  | some e =>
    obtain ⟨hmem, hactive⟩ := active_mem he
    obtain ⟨before, after, hm, -, hmanifest⟩ := timeOutActive_split s ho he
    have hrecord : (timeOutActive s).journal.records.length = s.journal.records.length + 1 := by
      rw [(timeOutActive_eq s he).2.1, finishEntry_eq (entryOf_listed ho.1 hmem)]
      simp [Journal.append]
    rw [hrecord, entriesOwing, entriesOwing, hmanifest, hm]
    simp only [List.filter_append, List.filter_cons, hactive, ManifestEntry.finish, List.length_append]
    simp
    omega

/-- From an empty list the abort raises ROUND ABORTED as a new entry. -/
theorem abortRound_alerts (ho : RoundLaw s) (h : s.alerts.entries = []) :
    (⟨.roundAborted, none, 1, s.clock.reading, s.clock.reading⟩ : AlertEntry) ∈
      (abortRound s).alerts.entries := by
  have hempty : OnlyHigh s.alerts := .of_empty h
  have htimeout : OnlyHigh (timeOutActive s).alerts := by
    cases he : s.round.active with
    | none => rwa [timeOutActive_none s he]
    | some e =>
      rw [(timeOutActive_eq s he).2.2, finishEntry_eq (entryOf_listed ho.1 (active_mem he).1)]
      exact hempty.alertsAfter 1
  rw [abortRound_eq ho, ← timeOutActive_clock s]
  exact (htimeout.alertsAfter _).raise_aborted

/-- The abort leaves the machines and the supervisors as the active entry's end has. -/
theorem abortRound_frame (ho : RoundLaw s) :
    (abortRound s).sups = (timeOutActive s).sups ∧
      (abortRound s).access = (timeOutActive s).access := by
  rw [abortRound_eq ho]
  exact ⟨rfl, rfl⟩

end
end Sys2Proof.Proofs.EmptyingRounds
end

section
/-! Proofs, RoundTimers: the expiry of the supervision timer and of the settle timer (R91, R93, R114, R115, R123). -/

namespace Sys2Proof.Proofs.EmptyingRounds

open Sys2Proof Sys2Proof.Machine Sys2Proof.Proofs.AccessMachines

section
variable {s : State} {due : Nat} {e : ManifestEntry}

/-! ### The supervision timer (R114, R115) -/

/-- A counting timer's expiry aborts the round at its due time. -/
theorem supervisionTimerExpiry_eq (hcounts : s.round.shouldCount = true)
    (hdue : s.round.supervision = .counting due) :
    exec .supervisionTimerExpiry s = .next (chooseNext (abortRound (reach due s.ready))) := by
  have hround : s.ready.round = s.round := by simp
  show execSupervisionTimerExpiry s = _
  simp only [execSupervisionTimerExpiry, event, hround, hdue, hcounts, if_true]

/-! ### The settle timer (R93, R123) -/

/-- The part once the settle timer has run out: MEASURING, with the column at the head of the queue. -/
def settled (due : Nat) (e : ManifestEntry) (s : State) : State :=
  { s with
    now := max s.now due,
    ranging := { s.ranging with queue := e.column :: s.ranging.queue.erase e.column },
    round := { s.round with
      stage := some .measuring, settleTimer := none,
      supervision := .held (s.round.timeLeft (max s.now due)) } }

/-- The active column's stage made MEASURING holds the supervision timer (R114). -/
theorem settled_eq (he : s.round.active = some e) :
    frontRequest e.column (setStage .measuring
      { reach due s with round := { s.round with settleTimer := none } }) = settled due e s := by
  have hheld : Round.shouldCount { s.round with settleTimer := none, stage := some .measuring } =
      false := by
    have hactive : Round.active { s.round with settleTimer := none, stage := some .measuring } =
        some e := he
    rw [Round.shouldCount, hactive]
    simp
  simp only [setStage, regulate, hheld]
  rfl

/-- The settle timer's expiry makes the active column ready to be measured, and the engine chooses. -/
theorem settleTimerExpiry_eq (hs : s.chosen) (hdue : s.round.settleTimer = some due)
    (he : s.round.active = some e) (hstage : s.round.stage = some .settling) :
    exec .settleTimerExpiry s = .next (chooseNext (settled due e s)) := by
  have hactive : Round.active { s.round with settleTimer := none } = some e := he
  rw [← settled_eq he]
  show execSettleTimerExpiry s = _
  rw [execSettleTimerExpiry, event_chosen _ s hs]
  simp only [hdue, State.reach_round, hactive]
  exact congrArg Host.Outcome.next (if_pos hstage)

/-- The active column is MEASURING. -/
theorem settled_stageOf (he : s.round.active = some e) :
    (settled due e s).round.stageOf e.column = some .measuring := by
  obtain ⟨hmem, hactive⟩ := active_mem he
  have hclaims : (settled due e s).round.claims e.column = true :=
    claims_iff.mpr ⟨e, hmem, rfl, hactive⟩
  rw [Round.stageOf, if_pos hclaims]
  rfl

/-- The column may be measured in service or out of it, seated, shut and locked (R90). -/
theorem settled_eligible (he : s.round.active = some e) :
    eligible (settled due e s) e.column = true ↔
      (s.sups[e.column].condition = .inService ∨ s.sups[e.column].condition = .outOfService) ∧
        s.sups[e.column].lift.level = true ∧ s.sups[e.column].hatchOpen = false ∧
        s.access[e.column].state = .locked := by
  have hsups : (settled due e s).sups = s.sups := rfl
  have haccess : (settled due e s).access = s.access := rfl
  simp [eligible, settled_stageOf he, hsups, haccess, Supervisor.liftOut, and_assoc]

/-- While the pause runs, a column at the head of the queue that may not be measured stays there. -/
theorem chooseNext_keeps_head {c : Column} {rest : List Column} (hb : s.ranging.burst = none)
    (hp : s.ranging.pause.isSome = true) (hq : s.ranging.queue = c :: rest)
    (hc : ¬eligible s c = true) : (chooseNext s).ranging.queue.head? = some c := by
  cases hfind : s.ranging.queue.find? (eligible s) with
  | none =>
    simp only [chooseNext, hb, hp, hfind, Option.isSome_none, Bool.false_eq_true, if_false, if_true]
    rw [hq, List.head?_cons]
  | some k =>
    have hk : eligible s k = true := List.find?_some hfind
    have hne : c ≠ k := fun h => hc (h ▸ hk)
    simp only [chooseNext, hb, hfind, Option.isSome_none, Bool.false_eq_true, if_false]
    simp [startBurst, hq, hne]

end

/-- Settles O33: the abort by what the active entry's end leaves to the PENDING ones, the settling by what
the engine then chooses. -/
theorem roundTimersExpire : Obligations.RoundTimersExpire := by
  refine ⟨fun s due hopen hcounts hdue ho => ?_, fun s due e hdue he hstage hburst => ?_,
    fun s due e hdue he hstage hburst hpause => ⟨fun hstill => ?_, fun hstill => ?_⟩⟩
  · refine ⟨_, supervisionTimerExpiry_eq hcounts hdue, ?_⟩
    generalize hv : reach due s.ready = v
    have hround : v.round = s.round := by simp [← hv]
    have hjournal : v.journal = s.journal := by simp [← hv]
    have halerts : v.alerts = s.alerts := by simp [← hv]
    have hclock : v.clock = s.clock := by simp [← hv]
    have hov : RoundLaw v := by rwa [RoundLaw, hround]
    have howing : entriesOwing v = entriesOwing s := by rw [entriesOwing, hround]; rfl
    obtain ⟨hsups, haccess⟩ := abortRound_frame v hov
    rw [chooseNext_eq, ← hround, ← hjournal, ← halerts, ← hclock, ← howing]
    refine ⟨congrArg Round.state (abortRound_round hov),
      congrArg Round.supervision (abortRound_round hov), abortRound_done hov,
      abortRound_columns hov, fun a ha => ?_, fun e => abortRound_pending hov,
      abortRound_records v hov, abortRound_alerts v hov⟩
    obtain ⟨hentry, hstage⟩ := abortRound_active hov ha
    obtain ⟨hpermit, hdrain⟩ := timeOutActive_column v ha
    exact ⟨hentry, hstage, by rwa [hsups], by rwa [haccess]⟩
  · rw [settleTimerExpiry_eq (.inl hburst) hdue he hstage, chooseNext_busy (settled due e s) hburst]
    rfl
  · rw [settleTimerExpiry_eq (.inr hpause) hdue he hstage,
      RangingEngine.chooseNext_forced_eq (s := settled due e s) (before := []) hburst rfl nofun
        ((settled_eligible he).mpr hstill),
      settled_stageOf he]
    rfl
  · refine ⟨_, settleTimerExpiry_eq (.inr hpause) hdue he hstage, ?_⟩
    have hhead := chooseNext_keeps_head (s := settled due e s) hburst hpause rfl
      fun h => hstill ((settled_eligible he).mp h)
    rw [chooseNext_eq] at hhead ⊢
    exact ⟨rfl, hhead, rfl, rfl⟩

end Sys2Proof.Proofs.EmptyingRounds
end

section
/-! Proofs, JournalAppends: the one append, with its record, its reservation and the journal's high mark (R135, R141, R147). -/

namespace Sys2Proof.Proofs.BillingJournal

open Sys2Proof Sys2Proof.Machine

/-- The append that makes 1,792 records held is the one that finds 1,791. -/
theorem meetsMark_eq (j : Journal) :
    (decide (j.held + 1 = 1792) && j.highArmed) =
      decide (j.records.length = 1791 ∧ j.highArmed = true) := by
  simp [Journal.held]

/-- Only an armed mark is disarmed, so what disarms it is the number of records alone. -/
theorem armed_and_not_meetsMark (j : Journal) :
    (j.highArmed && !decide (j.records.length = 1791 ∧ j.highArmed = true)) =
      (j.highArmed && decide (j.records.length ≠ 1791)) := by
  cases j.highArmed
  case false => rfl
  case true => simp

/-- An append changes the journal, and the alerts if it meets the armed mark. -/
theorem appendRecord_eq (s : State) (c : Column) (flags : RecordFlags) (period : BitVec 16)
    (body : RecordBody) :
    appendRecord c flags period body s =
      { s with
        journal := s.journal.append (stampRecord c flags period body s)
          (decide (s.journal.records.length = 1791 ∧ s.journal.highArmed = true)),
        alerts :=
          if s.journal.records.length = 1791 ∧ s.journal.highArmed = true then
            s.alerts.raise .journalHigh none s.clock.reading
          else s.alerts } := by
  simp only [appendRecord, meetsMark_eq, decide_eq_true_eq]
  split <;> rfl

/-- Settles O35: the record is the stamped one, and the mark is disarmed by the number of records. -/
theorem appendStampsAndWarns : Obligations.AppendStampsAndWarns := by
  intro s c flags period body
  dsimp only
  rw [appendRecord_eq, ← armed_and_not_meetsMark]
  rfl

end Sys2Proof.Proofs.BillingJournal
end

section
/-! Proofs, JournalRequests: JOURNAL READ and JOURNAL RELEASE (R145, R146). -/

namespace Sys2Proof.Proofs.BillingJournal

open Sys2Proof Sys2Proof.Machine Sys2Proof.Proofs.CardTables Sys2Proof.Proofs.ClockPeriod

/-! ### JOURNAL READ (R145) -/

section
variable {s : State} {n restart : Byte}

theorem journalRead_badValue (h : n.toNat = 0 ∨ 8 < n.toNat ∨ 1 < restart.toNat) :
    journalRead [n, restart] s = (s, [0x04]) := if_pos h

/-- A restart flag that is set delivers from the head, any other from the read mark. -/
theorem journalRead_delivers (h : ¬(n.toNat = 0 ∨ 8 < n.toNat ∨ 1 < restart.toNat)) :
    let mark := if restart = 1 then 0 else s.journal.readMark
    let out := (s.journal.records.drop mark).take n.toNat
    journalRead [n, restart] s =
      ({ s with journal := { s.journal with readMark := mark + out.length } },
        [0x00, byte out.length] ++ bytes 2 s.journal.held ++ bytes 2 (mark + out.length) ++
          out.flatMap Record.delivered) := by
  have hset : restart.toNat = 1 ↔ restart = 1 := BitVec.toNat_inj (y := 1)
  simp only [← hset]
  exact if_neg h

end

/-! ### JOURNAL RELEASE (R146) -/

/-- Two bytes, most significant first, as one number. -/
theorem number_two (a b : Byte) : number [a, b] = a.toNat * 256 + b.toNat := by
  simp only [number, List.foldl_cons, List.foldl_nil, Nat.zero_mul, Nat.zero_add]

section
variable {s : State} {n1 n0 : Byte}

theorem journalRelease_badValue (h : number [n1, n0] = 0 ∨ s.journal.readMark < number [n1, n0]) :
    journalRelease [n1, n0] s = (s, [0x04]) := if_pos h

theorem journalRelease_removes
    (h : ¬(number [n1, n0] = 0 ∨ s.journal.readMark < number [n1, n0])) :
    let j := s.journal.release (number [n1, n0])
    journalRelease [n1, n0] s =
      ({ s with journal := j },
        [0x00] ++ bytes 2 j.held ++ bytes 2 j.readMark ++ headBytes j.records) := if_neg h

end

/-- Settles O34: each request by its BAD VALUE case and by what it delivers or removes. -/
theorem journalReadAndReleased : Obligations.JournalReadAndReleased := by
  intro s hs hi
  refine ⟨fun n restart => ?_, fun n1 n0 => ?_⟩
  · split
    case isTrue h => exact served_unchanged hs hi (by decide) (journalRead_badValue h)
    case isFalse h => exact served_changed hs hi (by decide) (journalRead_delivers h)
  · dsimp only
    rw [← number_two]
    split
    case isTrue h => exact served_unchanged hs hi (by decide) (journalRelease_badValue h)
    case isFalse h =>
      have removed := served_changed hs hi (kind := 0xC1) (by decide)
        (journalRelease_removes (s := hostFrameEnds s) h)
      refine removed.trans ?_
      simp only [Journal.release, Journal.held, hostFrameEnds_frame]
      cases s.journal.records.drop (number [n1, n0]) with
      | nil => rfl
      | cons r rest => rfl

end Sys2Proof.Proofs.BillingJournal
end

section
/-! Proofs, AlertRaises: what a raising makes of the alert list, by its four cases (R151, R152). -/

namespace Sys2Proof.Proofs.AlertLists

open Sys2Proof Sys2Proof.Machine

/-- The entry that a raising makes where none has its kind and column (R152). -/
def newEntry (kind : AlertKind) (column : Option Column) (t : Reading) : AlertEntry :=
  { kind := kind, column := column, count := 1, first := t, last := t }

/-- No entry has a raising's kind and column. -/
def Unlisted (kind : AlertKind) (column : Option Column) (a : AlertList) : Prop :=
  ∀ e ∈ a.entries, ¬(e.kind = kind ∧ e.column = column)

/-- An entry of the lowest level present is the first of that level. -/
structure Oldest (before : List AlertEntry) (e : AlertEntry) (after : List AlertEntry) : Prop where
  lowest : ∀ x ∈ before ++ e :: after, e.kind.level ≤ x.kind.level
  first : ∀ x ∈ before, e.kind.level < x.kind.level

section
variable {a : AlertList} {kind : AlertKind} {column : Option Column} {t : Reading}
  {before after : List AlertEntry} {e : AlertEntry}

theorem matches_iff : e.matches kind column = true ↔ e.kind = kind ∧ e.column = column := by
  simp [AlertEntry.matches]

theorem unlisted_iff :
    Unlisted kind column a ↔ ¬a.entries.any (AlertEntry.matches kind column) = true := by
  simp only [Unlisted, List.any_eq_true, matches_iff, not_exists, not_and]

/-! ### The lowest level -/

theorem Oldest.lowestLevel_eq (h : Oldest before e after) :
    lowestLevel (before ++ e :: after) = e.kind.level := by
  have hlevel : e.kind.level ≤ 8 := e.kind.level_le.trans (by decide)
  exact Nat.le_antisymm (lowestLevel_le _ e (by simp)) (le_lowestLevel _ _ hlevel h.lowest)

/-- Every list of entries has an oldest of its lowest level. -/
theorem exists_oldest {l : List AlertEntry} (h : l ≠ []) :
    ∃ before e after, l = before ++ e :: after ∧ Oldest before e after := by
  induction l with
  | nil => exact absurd rfl h
  | cons x l ih =>
    by_cases hx : ∀ y ∈ l, x.kind.level ≤ y.kind.level
    · exact ⟨[], x, l, rfl, by simpa using hx, nofun⟩
    · push Not at hx
      obtain ⟨y, hy, hlower⟩ := hx
      obtain ⟨before, e, after, rfl, hold⟩ := ih (List.ne_nil_of_mem hy)
      have hex : e.kind.level < x.kind.level := (hold.lowest y hy).trans_lt hlower
      exact ⟨x :: before, e, after, rfl, by simpa [hex.le] using hold.lowest,
        by simpa [hex] using hold.first⟩

/-- The oldest of the lowest level is the one displaced. -/
theorem Oldest.eraseP_eq (h : Oldest before e after) :
    (before ++ e :: after).eraseP (fun x => decide (x.kind.level = e.kind.level)) =
      before ++ after := by
  rw [List.eraseP_append_right _ fun x hx => by simpa using (h.first x hx).ne',
    List.eraseP_cons_of_pos (by simp)]

/-! ### The cases of a raising (R151, R152) -/

theorem raise_coalesced (h : ∃ e ∈ a.entries, e.kind = kind ∧ e.column = column) :
    a.raise kind column t =
      { a with entries := a.entries.map fun e =>
          if e.kind = kind ∧ e.column = column then e.coalesce t else e } := by
  have hany : a.entries.any (AlertEntry.matches kind column) = true := by
    simpa only [List.any_eq_true, matches_iff] using h
  simp only [AlertList.raise, if_pos hany, matches_iff]

theorem raise_appended (h : Unlisted kind column a) (hroom : a.entries.length < 32) :
    a.raise kind column t = { a with entries := a.entries ++ [newEntry kind column t] } := by
  rw [AlertList.raise, if_neg (unlisted_iff.mp h), if_pos hroom]
  rfl

/-- With no room, the lowest level present decides. -/
theorem raise_full (h : Unlisted kind column a) (hfull : 32 ≤ a.entries.length)
    (hl : a.entries = before ++ e :: after) (hold : Oldest before e after) :
    a.raise kind column t =
      if e.kind.level < kind.level then
        { a with entries := before ++ after ++ [newEntry kind column t] }
      else { a with dropped := min 255 (a.dropped + 1) } := by
  rw [AlertList.raise, if_neg (unlisted_iff.mp h), if_neg (Nat.not_lt.mpr hfull)]
  simp only [hl, hold.lowestLevel_eq, hold.eraseP_eq]
  rfl

theorem raise_dropped (h : Unlisted kind column a) (hfull : 32 ≤ a.entries.length)
    (hlow : ∀ e ∈ a.entries, kind.level ≤ e.kind.level) :
    a.raise kind column t = { a with dropped := min 255 (a.dropped + 1) } := by
  obtain ⟨before, e, after, hl, hold⟩ :=
    exists_oldest (List.ne_nil_of_length_pos (Nat.lt_of_lt_of_le (by decide) hfull))
  rw [raise_full h hfull hl hold, if_neg (Nat.not_lt.mpr (hlow e (by simp [hl])))]

theorem raise_displaces (h : Unlisted kind column a) (hfull : 32 ≤ a.entries.length)
    (hl : a.entries = before ++ e :: after) (hold : Oldest before e after)
    (hlevel : e.kind.level < kind.level) :
    a.raise kind column t = { a with entries := before ++ after ++ [newEntry kind column t] } := by
  rw [raise_full h hfull hl hold, if_pos hlevel]

end

/-- Settles O17: the cases by whether an entry has the raising's kind and column, whether there is room,
and the lowest level present. -/
theorem raisingJoinsList : Obligations.RaisingJoinsList := by
  refine ⟨fun a kind column t h => raise_coalesced h, fun a kind column t h => ⟨raise_appended h,
    raise_dropped h, fun before e after hfull hl hlevel hlow hfirst => ?_⟩⟩
  exact raise_displaces h hfull hl ⟨hl ▸ hlow, hfirst⟩ hlevel

end Sys2Proof.Proofs.AlertLists
end

section
/-! Proofs, AlertRequests: ALERT FLOOR, ALERT FETCH, ATTN and the kinds' codes and levels (R154, R155, R156). -/

namespace Sys2Proof.Proofs.AlertLists

open Sys2Proof Sys2Proof.Machine Sys2Proof.Proofs.CardTables Sys2Proof.Proofs.ClockPeriod

/-! ### The requests (R155, R156) -/

section
variable {s : State} {n : Byte}

theorem alertFloor_badValue (h : n.toNat = 0 ∨ 8 < n.toNat) : alertFloor [n] s = (s, [0x04]) :=
  if_pos h

theorem alertFloor_sets (h : ¬(n.toNat = 0 ∨ 8 < n.toNat)) :
    alertFloor [n] s = ({ s with alerts := { s.alerts with floor := n.toNat } }, [0x00, n]) :=
  if_neg h

theorem alertFetch_badValue (h : n.toNat = 0 ∨ 6 < n.toNat) : alertFetch [n] s = (s, [0x04]) :=
  if_pos h

/-- The oldest entries are taken from the head of the list, and the dropped count is cleared. -/
theorem alertFetch_takes (h : ¬(n.toNat = 0 ∨ 6 < n.toNat)) :
    alertFetch [n] s =
      ({ s with alerts := { s.alerts with entries := s.alerts.entries.drop n.toNat, dropped := 0 } },
        [0x00, byte (s.alerts.entries.take n.toNat).length,
          byte (s.alerts.entries.drop n.toNat).length, byte s.alerts.dropped] ++
          (s.alerts.entries.take n.toNat).flatMap AlertEntry.bytes) := if_neg h

end

/-! ### ATTN (R154) -/

theorem attn_iff (a : AlertList) : a.attn = true ↔ ∃ e ∈ a.entries, a.floor ≤ e.kind.level := by
  simp [AlertList.attn]

/-- The bytes of an entry, its two readings spelled out (R175). -/
theorem alertEntry_bytes (e : AlertEntry) :
    e.bytes = [byte e.kind.code, (e.column.map fun c => byte c.val).getD 0xFF, byte e.kind.level,
      byte e.count] ++ bytes 2 e.first.day.toNat ++ bytes 3 e.first.second ++
      bytes 2 e.last.day.toNat ++ bytes 3 e.last.second := by
  simp only [AlertEntry.bytes, Reading.bytes, List.append_assoc]

/-- Settles O16: each request by its BAD VALUE case and by what it changes of the list, ATTN by the entry
it finds, the kinds one by one. -/
theorem alertRequestsServed : Obligations.AlertRequestsServed := by
  refine ⟨fun s n hs hi => ⟨?_, attn_iff⟩, fun s n hs hi => ?_, by decide⟩
  · split
    case isTrue h => exact served_unchanged hs hi (by decide) (alertFloor_badValue h)
    case isFalse h => exact served_changed hs hi (by decide) (alertFloor_sets h)
  · simp only [← alertEntry_bytes]
    split
    case isTrue h => exact served_unchanged hs hi (by decide) (alertFetch_badValue h)
    case isFalse h => exact served_changed hs hi (by decide) (alertFetch_takes h)

end Sys2Proof.Proofs.AlertLists
end

section
/-! Proofs, ListLaws: the laws of the alert list, of the forced queue and the scan, of the estimates and of the journal's order, each as one of the block alone, and the changes of a block that keep its law (R92, R94, R95, R98, R135, R144, R150). -/

namespace Sys2Proof.Proofs.AlertLists

open Sys2Proof Sys2Proof.Machine Sys2Proof.Proofs.RangingEngine Sys2Proof.Proofs.FillEstimates

/-! ### The laws -/

/-- The kind and column that no two entries share (R150). -/
def entryKey (e : AlertEntry) : AlertKind × Option Column := (e.kind, e.column)

/-- The law of the alert list (R150). -/
structure Distinct (a : AlertList) : Prop where
  room : a.entries.length ≤ 32
  once : (a.entries.map entryKey).Nodup

/-- The law of the forced queue, the scan's pointer and pause, and the burst (R92, R94, R95). -/
structure Scanning (r : Ranging) : Prop where
  once : r.queue.Nodup
  waits : r.pause.isSome = true → r.pointer = 0
  follows : ∀ b, r.burst = some b → b.purpose = .scan → r.pause = none ∧ b.column = r.pointer

/-- The law of the estimates (R98). -/
def InScale (f : Vector Fill 12) : Prop := ∀ c : Column, f[c].estimate ≤ 200

/-- Sequence numbers rise by one up to the next one (R135). -/
def Rising (l : List Record) (next : BitVec 32) : Prop :=
  ∀ i, (h : i < l.length) → l[i].seq + BitVec.ofNat 32 (l.length - i) = next

/-- The law of the journal's order and its read mark (R135, R144). -/
structure Ordered (j : Journal) : Prop where
  mark : j.readMark ≤ j.records.length
  rising : Rising j.records j.nextSeq

theorem alertLaw_iff (s : State) : AlertLaw s ↔ Distinct s.alerts :=
  ⟨fun ⟨hroom, honce⟩ => ⟨hroom, honce⟩, fun ⟨hroom, honce⟩ => ⟨hroom, honce⟩⟩

theorem rangingLaw_iff (s : State) : RangingLaw s ↔ Scanning s.ranging ∧ InScale s.fills :=
  ⟨fun ⟨honce, hscale, hwaits, hfollows⟩ => ⟨⟨honce, hwaits, hfollows⟩, hscale⟩,
    fun ⟨⟨honce, hwaits, hfollows⟩, hscale⟩ => ⟨honce, hscale, hwaits, hfollows⟩⟩

theorem journalOrderLaw_iff (s : State) : JournalOrderLaw s ↔ Ordered s.journal :=
  ⟨fun ⟨hmark, hseq⟩ => ⟨hmark, hseq⟩, fun ⟨hmark, hseq⟩ => ⟨hmark, hseq⟩⟩

/-! ### The alert list (R150 to R152, R156, R158) -/

section
variable {a : AlertList} {kind : AlertKind} {column : Option Column} {t : Reading}

/-- A raising that finds its entry changes no kind and no column. -/
theorem coalesced_keys :
    (a.entries.map fun e =>
      if e.kind = kind ∧ e.column = column then e.coalesce t else e).map entryKey =
      a.entries.map entryKey := by
  rw [List.map_map]
  refine List.map_congr_left fun e _ => ?_
  dsimp only [Function.comp]
  split <;> rfl

/-- A new entry after some of the old ones, of a kind and column that none has. -/
theorem Distinct.joined (h : Distinct a) (hnew : Unlisted kind column a) {l : List AlertEntry}
    (hsub : l.Sublist a.entries) (hroom : l.length < 32) :
    Distinct { a with entries := l ++ [newEntry kind column t] } := by
  refine ⟨by simpa using hroom, ?_⟩
  have hfresh : (kind, column) ∉ l.map entryKey := fun hmem => by
    obtain ⟨e, he, hkey⟩ := List.mem_map.mp hmem
    exact hnew e (hsub.subset he) (Prod.mk.inj hkey)
  rw [List.map_append, List.map_singleton, List.nodup_append_comm]
  exact List.nodup_cons.mpr ⟨hfresh, h.once.sublist (hsub.map _)⟩

/-- A raising keeps the list's law: where it displaces an entry, one leaves and one joins (R151, R152). -/
theorem Distinct.raised (h : Distinct a) : Distinct (a.raise kind column t) := by
  by_cases hlisted : ∃ e ∈ a.entries, e.kind = kind ∧ e.column = column
  · rw [raise_coalesced hlisted]
    exact ⟨by simpa using h.room, coalesced_keys.symm ▸ h.once⟩
  have hnew : Unlisted kind column a := fun e he hkey => hlisted ⟨e, he, hkey⟩
  rcases Nat.lt_or_ge a.entries.length 32 with hroom | hfull
  · rw [raise_appended hnew hroom]
    exact h.joined hnew (List.Sublist.refl _) hroom
  obtain ⟨before, e, after, hl, hold⟩ :=
    exists_oldest (List.ne_nil_of_length_pos (Nat.lt_of_lt_of_le (by decide) hfull))
  rw [raise_full hnew hfull hl hold]
  split
  · have hroom := h.room
    rw [hl, List.length_append, List.length_cons] at hroom
    refine h.joined hnew (hl ▸ List.Sublist.append_left (List.sublist_cons_self e after) before) ?_
    rw [List.length_append]
    omega
  · exact ⟨h.room, h.once⟩

/-- Entries taken from the head of the list (R156). -/
theorem Distinct.taken (h : Distinct a) (n : Nat) :
    Distinct { a with entries := a.entries.drop n, dropped := 0 } :=
  have hsub := List.drop_sublist n a.entries
  ⟨hsub.length_le.trans h.room, h.once.sublist (hsub.map _)⟩

/-- An emptied list (R157, R158). -/
theorem Distinct.of_empty (h : a.entries = []) : Distinct a := by
  constructor <;> simp [h]

end

/-! ### The forced queue and the scan (R89 to R95) -/

section
variable {r : Ranging}

theorem Scanning.enqueued (h : Scanning r) (c : Column) : Scanning (r.enqueue c) := by
  refine ⟨enqueue_nodup c r h.once, ?_, ?_⟩
  · unfold Ranging.enqueue
    split <;> exact h.waits
  · unfold Ranging.enqueue
    split <;> exact h.follows

theorem Scanning.fronted (h : Scanning r) (c : Column) : Scanning (r.front c) :=
  ⟨front_nodup c r h.once, h.waits, h.follows⟩

theorem Scanning.erased (h : Scanning r) (c : Column) :
    Scanning { r with queue := r.queue.erase c } :=
  ⟨h.once.erase c, h.waits, h.follows⟩

/-- The burst removed (R88, R89). -/
theorem Scanning.freed (h : Scanning r) : Scanning { r with burst := none } :=
  ⟨h.once, h.waits, nofun⟩

/-- The pause at its end (R95). -/
theorem Scanning.unpaused (h : Scanning r) : Scanning { r with pause := none } :=
  ⟨h.once, nofun, fun b hb hp => ⟨rfl, (h.follows b hb hp).2⟩⟩

/-- A burst changed in what the law does not read: the column and the purpose stay (R86, R87). -/
theorem Scanning.burst_changed (h : Scanning r) {b d : Burst} (hb : r.burst = some b)
    (hcolumn : d.column = b.column) (hpurpose : d.purpose = b.purpose) :
    Scanning { r with burst := some d } :=
  ⟨h.once, h.waits, fun x hx hscan => by
    cases hx
    rw [hcolumn]
    exact h.follows b hb (hpurpose ▸ hscan)⟩

end

section
variable {s : State}

/-- The free engine's pointer moves on, and at the end of the cycle the pause begins at column 0 (R95). -/
theorem advancePointer_scanning (h : Scanning s.ranging) (hb : s.ranging.burst = none)
    (hp : s.ranging.pause = none) : Scanning (advancePointer s).ranging := by
  unfold advancePointer
  split
  · exact ⟨h.once, fun _ => rfl, fun b hsome => by simp [hb] at hsome⟩
  · exact ⟨h.once, fun hsome => by simp [hp] at hsome, fun b hsome => by simp [hb] at hsome⟩

theorem endBurst_scanning (h : Scanning s.ranging) : Scanning (endBurst s).ranging := by
  unfold endBurst
  split
  · exact h
  case h_2 b hb =>
    dsimp only
    split
    case isTrue hscan => exact advancePointer_scanning h.freed rfl (h.follows b hb hscan).1
    · exact h.freed

/-- A forced burst is none of the scan's; a SCAN burst begins on the column at the pointer, the pause
being stopped (R91, R94). -/
theorem startBurst_scanning (h : Scanning s.ranging) (c : Column) (p : Purpose)
    (hscan : p = .scan → s.ranging.pause = none ∧ c = s.ranging.pointer) :
    Scanning (startBurst c p s).ranging :=
  ⟨h.once, h.waits, fun b hb hp => by cases hb; exact hscan hp⟩

theorem scanWalk_scanning (n : Nat) (h : Scanning s.ranging) (hb : s.ranging.burst = none)
    (hp : s.ranging.pause = none) : Scanning (scanWalk n s).ranging := by
  induction n generalizing s with
  | zero => exact h
  | succ n ih =>
    by_cases hmeasure : eligible s s.ranging.pointer = true ∧
        s.ranging.heads[s.ranging.pointer].skip = 0
    · rw [scanWalk_measures n s hmeasure.1 hmeasure.2]
      exact startBurst_scanning (s := reloadSkip _ s) ⟨h.once, h.waits, h.follows⟩ _ _
        fun _ => ⟨hp, rfl⟩
    · rw [not_and_or, Bool.not_eq_true] at hmeasure
      rw [scanWalk_passes n hmeasure]
      have hpassed : Scanning (passed s).ranging := ⟨h.once, h.waits, h.follows⟩
      have hadvanced := advancePointer_scanning hpassed hb hp
      have hfree : (advancePointer (passed s)).ranging.burst = none := by
        unfold advancePointer
        split <;> exact hb
      rcases advancePointer_pointer (passed s) hp with hends | ⟨hpause, -⟩
      · rwa [if_pos hends]
      · rw [if_neg (by simp [hpause])]
        exact ih hadvanced hfree hpause

theorem chooseNext_scanning (h : Scanning s.ranging) : Scanning (chooseNext s).ranging := by
  unfold chooseNext
  split
  · exact h
  case isFalse hb =>
    split
    · refine startBurst_scanning (h.erased _) _ _ fun hscan => ?_
      split at hscan <;> cases hscan
    · split
      · exact h
      case isFalse hp => exact scanWalk_scanning 12 h (by simpa using hb) (by simpa using hp)

end

/-! ### The estimates (R98, R101) -/

/-- A distance converts to at most 200 whatever the column's E and F. -/
theorem convertFill_le_200 (e f d : Nat) : convertFill e f d ≤ 200 := by
  rcases Nat.lt_or_ge f e with hfe | hfe
  · exact convertFill_le hfe
  · unfold convertFill
    split
    · omega
    · rw [if_pos (by omega)]

theorem InScale.set {f : Vector Fill 12} (h : InScale f) (c : Column) {x : Fill}
    (hx : x.estimate ≤ 200) : InScale (f.set c x) := by
  intro k
  by_cases hk : c.val = k.val
  · simpa [Vector.getElem_set, hk] using hx
  · simpa [Vector.getElem_set, hk] using h k

/-! ### The journal (R135, R141, R144 to R146) -/

section
variable {j : Journal}

theorem Rising.append {l : List Record} {next : BitVec 32} (h : Rising l next) {r : Record}
    (hr : r.seq = next) : Rising (l ++ [r]) (next + 1) := by
  intro i hi
  rw [List.length_append, List.length_singleton] at hi
  simp only [List.length_append, List.length_singleton]
  rcases Nat.lt_succ_iff_lt_or_eq.mp hi with hold | rfl
  · rw [List.getElem_append_left hold, Nat.sub_add_comm hold.le, BitVec.ofNat_add, ← BitVec.add_assoc,
      h i hold]
    rfl
  · rw [List.getElem_concat_length rfl, hr, Nat.add_sub_cancel_left]
    rfl

theorem Rising.drop {l : List Record} {next : BitVec 32} (h : Rising l next) (n : Nat) :
    Rising (l.drop n) next := by
  intro i hi
  rw [List.length_drop] at hi
  rw [List.getElem_drop, List.length_drop, Nat.sub_sub]
  exact h (n + i) (by omega)

/-- A record with the next sequence number joins the tail (R135, R141). -/
theorem Ordered.appended (h : Ordered j) {r : Record} (hr : r.seq = j.nextSeq) (high : Bool) :
    Ordered (j.append r high) :=
  ⟨h.mark.trans (List.sublist_append_left j.records [r]).length_le, h.rising.append hr⟩

/-- A mark within the records held (R144, R145). -/
theorem Ordered.marked (h : Ordered j) {n : Nat} (hn : n ≤ j.records.length) :
    Ordered { j with readMark := n } := ⟨hn, h.rising⟩

/-- The oldest records removed, and the mark moved back by their number (R146). -/
theorem Ordered.released (h : Ordered j) (n : Nat) : Ordered (j.release n) := by
  refine ⟨?_, h.rising.drop n⟩
  show j.readMark - n ≤ (j.records.drop n).length
  rw [List.length_drop]
  exact Nat.sub_le_sub_right h.mark n

end

end Sys2Proof.Proofs.AlertLists
end

section
/-! Proofs, ListOperations: each shared operation keeps the four laws; an operation that is not named here changes none of the four blocks (01, 04, 05, 06). -/

namespace Sys2Proof.Proofs.AlertLists

open Sys2Proof Sys2Proof.Machine

/-- The four blocks that the laws read. -/
abbrev lists (s : State) : AlertList × Ranging × Vector Fill 12 × Journal :=
  (s.alerts, s.ranging, s.fills, s.journal)

/-- What holds of each of the four blocks in one state of the part holds in another. -/
structure KeepsLists (s t : State) : Prop where
  alerts : Distinct s.alerts → Distinct t.alerts
  ranging : Scanning s.ranging → Scanning t.ranging
  fills : InScale s.fills → InScale t.fills
  journal : Ordered s.journal → Ordered t.journal

/-! ### One block changed

Each lemma goes on from a state `t` that has kept the laws of `s`, so that the proof about an operation
reads as its definition does. -/

section
variable {s t u : State}

theorem KeepsLists.refl (s : State) : KeepsLists s s := ⟨id, id, id, id⟩

theorem KeepsLists.trans (h : KeepsLists s t) (h' : KeepsLists t u) : KeepsLists s u :=
  ⟨h'.alerts ∘ h.alerts, h'.ranging ∘ h.ranging, h'.fills ∘ h.fills, h'.journal ∘ h.journal⟩

/-- An operation that changes none of the four blocks. -/
theorem KeepsLists.framed (h : KeepsLists s t) (e : lists u = lists t) :
    KeepsLists s u := by
  obtain ⟨ha, hr, hf, hj⟩ : u.alerts = t.alerts ∧ u.ranging = t.ranging ∧ u.fills = t.fills ∧
      u.journal = t.journal := by simpa using e
  exact ⟨ha ▸ h.alerts, hr ▸ h.ranging, hf ▸ h.fills, hj ▸ h.journal⟩

/-- A state that differs in none of the four blocks goes before. -/
theorem KeepsLists.after (h : KeepsLists t u) (e : lists t = lists s) : KeepsLists s u :=
  ((KeepsLists.refl s).framed e).trans h

/-- An operation that changes the engine alone, and keeps the law of the scan. -/
theorem KeepsLists.engine (h : KeepsLists s t)
    (e : lists u = (t.alerts, u.ranging, t.fills, t.journal))
    (hr : Scanning t.ranging → Scanning u.ranging) : KeepsLists s u := by
  obtain ⟨ha, hf, hj⟩ : u.alerts = t.alerts ∧ u.fills = t.fills ∧ u.journal = t.journal := by
    simpa using e
  exact ⟨ha ▸ h.alerts, hr ∘ h.ranging, hf ▸ h.fills, hj ▸ h.journal⟩

/-- The journal changed as its law allows. -/
theorem KeepsLists.journaled (h : KeepsLists s t) {j : Journal}
    (hj : Ordered t.journal → Ordered j) : KeepsLists s { t with journal := j } :=
  ⟨h.alerts, h.ranging, h.fills, hj ∘ h.journal⟩

/-- The alert list changed as its law allows. -/
theorem KeepsLists.alerted (h : KeepsLists s t) {a : AlertList}
    (ha : Distinct t.alerts → Distinct a) : KeepsLists s { t with alerts := a } :=
  ⟨ha ∘ h.alerts, h.ranging, h.fills, h.journal⟩

/-! ### Operations on one column that change none of the four blocks -/

section
variable (c : Column)

theorem modSup_kept (f : Supervisor → Supervisor) (h : KeepsLists s t) :
    KeepsLists s (t.modSup c f) := h.framed (by simp)

theorem modAccess_kept (f : Access → Access) (h : KeepsLists s t) :
    KeepsLists s (t.modAccess c f) := h.framed (by simp)

theorem takeInput_kept (i : Input) (closed : Bool) (h : KeepsLists s t) :
    KeepsLists s (takeInput c i closed t) := h.framed (by simp)

theorem withdrawPermit_kept (h : KeepsLists s t) : KeepsLists s (withdrawPermit c t) :=
  h.framed (by simp)

theorem sendVerdict_kept (v : VerdictCode) (m : Option Nat) (r : Option Column)
    (h : KeepsLists s t) : KeepsLists s (sendVerdict c v m r t) := h.framed (by simp)

theorem arriveLocked_kept (h : KeepsLists s t) : KeepsLists s (arriveLocked c t) :=
  h.framed (by simp)

theorem goHoming_kept (h : KeepsLists s t) : KeepsLists s (goHoming c t) := h.framed (by simp)

theorem endDrain_kept (h : KeepsLists s t) : KeepsLists s (endDrain c t) := h.framed (by simp)

end

/-! ### Alerts and records (R141, R151) -/

section
variable (kind : AlertKind) (column : Option Column) (c : Column)

theorem raiseAlert_kept (h : KeepsLists s t) : KeepsLists s (raiseAlert kind column t) :=
  h.alerted Distinct.raised

theorem raiseIf_kept (kind : Option AlertKind) (h : KeepsLists s t) :
    KeepsLists s (raiseIf kind column t) := by
  cases kind with
  | none => exact h
  | some k => exact raiseAlert_kept k column h

theorem releaseReservation_kept (h : KeepsLists s t) : KeepsLists s (releaseReservation t) :=
  h.journaled fun hj => ⟨hj.mark, hj.rising⟩

theorem reserve_kept (n : Nat) (h : KeepsLists s t) : KeepsLists s (reserve n t) :=
  h.journaled fun hj => ⟨hj.mark, hj.rising⟩

theorem appendRecord_kept (flags : RecordFlags) (period : BitVec 16) (body : RecordBody)
    (h : KeepsLists s t) : KeepsLists s (appendRecord c flags period body t) := by
  have appended (high : Bool) : KeepsLists s
      { t with journal := t.journal.append (stampRecord c flags period body t) high } :=
    h.journaled fun hj => hj.appended rfl high
  simp only [appendRecord]
  split
  · exact raiseAlert_kept _ _ (appended _)
  · exact appended _

end

/-! ### The fill tracker (R97 to R104) -/

section
variable (c : Column)

theorem modFill_kept {f : Fill → Fill} (hf : t.fills[c].estimate ≤ 200 → (f t.fills[c]).estimate ≤ 200)
    (h : KeepsLists s t) : KeepsLists s (t.modFill c f) :=
  ⟨h.alerts, h.ranging, fun hs => (h.fills hs).set c (hf (h.fills hs c)), h.journal⟩

theorem modHead_kept (f : Head → Head) (h : KeepsLists s t) : KeepsLists s (t.modHead c f) :=
  h.engine (by simp) fun hr => ⟨hr.once, hr.waits, hr.follows⟩

theorem recomputeBand_kept (h : KeepsLists s t) : KeepsLists s (recomputeBand c t) :=
  raiseIf_kept _ _ (modFill_kept c id h)

theorem raiseOverfill_kept (fill : Nat) (h : KeepsLists s t) : KeepsLists s (raiseOverfill c fill t) := by
  unfold raiseOverfill
  split
  · exact raiseAlert_kept _ _ h
  · exact h

theorem trackSuccess_kept (mm : Nat) (h : KeepsLists s t) : KeepsLists s (trackSuccess c mm t) :=
  raiseOverfill_kept c _ (recomputeBand_kept c (modFill_kept c (fun _ => convertFill_le_200 ..) h))

theorem countFailure_kept (h : KeepsLists s t) : KeepsLists s (countFailure c t) := by
  have counted (f : Head → Head) (g : Fill → Fill) (hg : ∀ x, (g x).estimate = x.estimate) :
      KeepsLists s ((t.modHead c f).modFill c g) :=
    modFill_kept c (fun hx => (hg _).symm ▸ hx) (modHead_kept c f h)
  simp only [countFailure]
  split
  · exact raiseAlert_kept _ _ (counted _ _ fun _ => rfl)
  · exact counted _ _ fun _ => rfl

theorem trackEmptied_kept (h : KeepsLists s t) : KeepsLists s (trackEmptied c t) :=
  recomputeBand_kept c (modFill_kept c (fun _ => Nat.zero_le _) h)

/-! ### The forced queue and the burst (R89 to R93, R106) -/

theorem enqueue_kept (h : KeepsLists s t) : KeepsLists s (enqueue c t) :=
  h.engine (by simp) fun hr => hr.enqueued c

theorem frontRequest_kept (h : KeepsLists s t) : KeepsLists s (frontRequest c t) :=
  h.engine (by simp) fun hr => hr.fronted c

theorem endBurst_kept (h : KeepsLists s t) : KeepsLists s (endBurst t) :=
  h.engine (by simp) endBurst_scanning

theorem chooseNext_kept (h : KeepsLists s t) : KeepsLists s (chooseNext t) :=
  h.engine (by simp) chooseNext_scanning

theorem abandonBurst_kept (h : KeepsLists s t) : KeepsLists s (abandonBurst c t) := by
  unfold abandonBurst
  split
  · exact h
  · split
    · split
      · exact frontRequest_kept c (endBurst_kept h)
      · exact enqueue_kept c (endBurst_kept h)
    · exact h

theorem dropColumn_kept (h : KeepsLists s t) : KeepsLists s (dropColumn c t) := by
  have erased {u : State} (hu : KeepsLists s u) : KeepsLists s
      { u with ranging := { u.ranging with queue := u.ranging.queue.erase c } } :=
    hu.engine (by simp) fun hr => hr.erased c
  unfold dropColumn
  split
  · exact erased h
  · split
    · exact erased (endBurst_kept h)
    · exact erased h

/-- A completed deposit raises the estimate up to 200 (R101). -/
theorem trackDeposit_kept (h : KeepsLists s t) : KeepsLists s (trackDeposit c t) := by
  have tracked := recomputeBand_kept c (modFill_kept c (t := t)
    (f := fun f => { f with estimate := min 200 (f.estimate + t.profile.columns[c].increment),
                            since := min 255 (f.since + 1) })
    (fun _ => Nat.min_le_left _ _) h)
  simp only [trackDeposit]
  split
  · exact enqueue_kept c tracked
  · exact tracked

/-! ### Faults and the latch (R2, R5 to R9) -/

theorem takeFault_kept (r : Reason) (h : KeepsLists s t) : KeepsLists s (takeFault c r t) := by
  unfold takeFault
  split
  · exact h
  · exact raiseIf_kept _ _ (modSup_kept c _ h)

theorem failLatch_kept (h : KeepsLists s t) : KeepsLists s (failLatch c t) :=
  takeFault_kept c _ (modSup_kept c _ h)

theorem releaseRequest_kept (h : KeepsLists s t) : KeepsLists s (releaseRequest c t) := by
  unfold releaseRequest
  split
  · exact h.framed (by simp)
  · exact failLatch_kept c h

theorem contactJudged_kept (h : KeepsLists s t) : KeepsLists s (contactJudged c t).1 := by
  unfold contactJudged
  dsimp only
  split
  · split
    · exact h
    · exact takeFault_kept c _ (modSup_kept c _ h)
  · split
    · exact h
    · exact takeFault_kept c _ (modSup_kept c _ h)
  · split
    · exact h.framed (by simp)
    · split
      · exact h.framed (by simp)
      · split
        · exact takeFault_kept c _ h
        · exact h
  · split
    · exact failLatch_kept c h
    · split
      · exact h.framed (by simp)
      · split
        · exact h.framed (by simp)
        · exact h

/-! ### A grant made and a grant that ends (R64, R70 to R75) -/

theorem undoGrant_kept (h : KeepsLists s t) : KeepsLists s (undoGrant c t) := by
  unfold undoGrant
  split
  · exact h
  · exact releaseReservation_kept (h.framed (by simp))

theorem cutGrant_kept (v : VerdictCode) (h : KeepsLists s t) : KeepsLists s (cutGrant c v t) :=
  goHoming_kept c (undoGrant_kept c (sendVerdict_kept c v none none h))

theorem releaseFailed_kept (h : KeepsLists s t) : KeepsLists s (releaseFailed c t) :=
  modAccess_kept c _ (arriveLocked_kept c (undoGrant_kept c (sendVerdict_kept c .fault none none h)))

theorem leaveLocked_kept (st : AccessState) (h : KeepsLists s t) : KeepsLists s (leaveLocked c st t) :=
  abandonBurst_kept c (modAccess_kept c _ h)

/-- The release request of a grant, which over a latch that is not home fails at once (R5, R70). -/
theorem releaseTried_kept (h : KeepsLists s t) : KeepsLists s
    (if releaseStarts c t then releaseRequest c t else releaseFailed c (releaseRequest c t)) := by
  split
  · exact releaseRequest_kept c h
  · exact releaseFailed_kept c (releaseRequest_kept c h)

theorem makeGrant_kept (card : CardNumber) (f : Found) (h : KeepsLists s t) :
    KeepsLists s (makeGrant c card f t) :=
  releaseTried_kept c (leaveLocked_kept c _ (modAccess_kept c _ (reserve_kept 1 (h.framed (by simp)))))

theorem takePresent_kept (card : CardNumber) (h : KeepsLists s t) :
    KeepsLists s (takePresent c card t) := by
  unfold takePresent
  split
  · exact sendVerdict_kept c _ _ _ h
  · exact chooseNext_kept (makeGrant_kept c card _ h)

theorem countUse_kept (g : GrantContext) (h : KeepsLists s t) : KeepsLists s (countUse g t) :=
  h.framed (by simp)

theorem settleOpened_kept (g : GrantContext) (interrupted increment : Bool) (h : KeepsLists s t) :
    KeepsLists s (settleOpened c g interrupted increment t) := by
  have deposited {u : State} (hu : KeepsLists s u) :
      KeepsLists s (countInsertion c (countUse g (appendInsertion c g interrupted u))) :=
    modAccess_kept c _ (countUse_kept g (appendRecord_kept c _ _ _ hu))
  unfold settleOpened
  split
  · exact countUse_kept g (appendRecord_kept c _ _ _ h)
  · cases increment with
    | true => exact deposited (trackDeposit_kept c h)
    | false => exact deposited h

/-! ### Reports at the machine (R69, R70, R72 to R75, R77 to R82) -/

theorem accessReleased_kept (h : KeepsLists s t) : KeepsLists s (accessReleased c t) := by
  unfold accessReleased
  split
  · split
    · exact cutGrant_kept c _ h
    · exact h.framed (by simp)
  all_goals exact h

theorem accessFailed_kept (h : KeepsLists s t) : KeepsLists s (accessFailed c t) := by
  unfold accessFailed
  split
  · exact releaseFailed_kept c h
  · exact arriveLocked_kept c h
  all_goals exact h

theorem accessReport_kept (r : Option LatchReport) (h : KeepsLists s t) :
    KeepsLists s (accessReport c r t) := by
  rcases r with _ | _ | _ | _
  · exact h
  · exact accessReleased_kept c h
  · exact h.framed (by simp [accessReport])
  · exact accessFailed_kept c h

theorem accessOpened_kept (h : KeepsLists s t) : KeepsLists s (accessOpened c t) := by
  have opened {u : State} (hu : KeepsLists s u) (f : Access → Access) :
      KeepsLists s (abandonBurst c (u.modAccess c f)) :=
    abandonBurst_kept c (modAccess_kept c f hu)
  unfold accessOpened
  split
  · dsimp only
    split
    · exact opened h _
    · exact opened (takeFault_kept c _ h) _
  · exact h.framed (by simp)
  · exact h.framed (by simp)
  · exact modAccess_kept c _ (takeFault_kept c _ h)
  · exact h

theorem accessClosed_kept (h : KeepsLists s t) : KeepsLists s (accessClosed c t) := by
  unfold accessClosed
  split
  · split
    · exact goHoming_kept c h
    · exact goHoming_kept c (settleOpened_kept c _ _ _ h)
  all_goals exact h

theorem drainRequest_kept (h : KeepsLists s t) : KeepsLists s (drainRequest c t) := by
  have marked := modAccess_kept c (fun a => { a with drainMark := true }) h
  unfold drainRequest
  dsimp only
  split
  · exact modAccess_kept c _ marked
  · exact cutGrant_kept c _ marked
  all_goals exact marked

theorem accessLifted_kept (h : KeepsLists s t) : KeepsLists s (accessLifted c t) := by
  unfold accessLifted
  split
  · exact h
  · exact h
  · exact cutGrant_kept c _ h
  · exact cutGrant_kept c _ h
  · split
    · exact goHoming_kept c h
    · exact goHoming_kept c (modAccess_kept c _ (settleOpened_kept c _ _ _ h))

end
end

end Sys2Proof.Proofs.AlertLists
end

section
/-! Proofs, ListEvents: the round controller's operations, the events that reach several blocks, the results of a burst, a profile write and the blocks' restarts keep the four laws (R4, R8, R88, R110 to R132, R171, R173). -/

namespace Sys2Proof.Proofs.AlertLists

open Sys2Proof Sys2Proof.Machine

section
variable {s t : State} (c : Column)

/-! ### Entries that become DONE (R111, R128) -/

theorem reloadSupervision_kept (h : KeepsLists s t) : KeepsLists s (reloadSupervision t) :=
  h.framed (by simp)

theorem setStage_kept (st : Stage) (h : KeepsLists s t) : KeepsLists s (setStage st t) :=
  h.framed (by simp)

theorem leaveOpen_kept (st : RoundState) (h : KeepsLists s t) : KeepsLists s (leaveOpen st t) :=
  h.framed (by simp)

theorem finishEntry_kept (o : EntryOutcome) (f : Option FailReason) (after : Option Nat)
    (residue : Bool) (h : KeepsLists s t) : KeepsLists s (finishEntry c o f after residue t) := by
  unfold finishEntry
  split
  · exact h
  · exact appendRecord_kept _ _ _ _ (h.framed (by simp))

theorem failEntry_kept (fail : FailReason) (h : KeepsLists s t) : KeepsLists s (failEntry c fail t) :=
  reloadSupervision_kept (finishEntry_kept c _ _ _ _ h)

/-- What every item of a list keeps, the list keeps. -/
theorem foldl_kept {α : Type} {f : State → α → State}
    (hf : ∀ {u : State} (a : α), KeepsLists s u → KeepsLists s (f u a)) (l : List α)
    (h : KeepsLists s t) : KeepsLists s (l.foldl f t) := by
  induction l generalizing t with
  | nil => exact h
  | cons a l ih => exact ih (hf a h)

theorem finishAll_kept (o : EntryOutcome) (cs : List Column) (h : KeepsLists s t) :
    KeepsLists s (finishAll o cs t) :=
  foldl_kept (fun c hu => finishEntry_kept c o _ _ _ hu) cs h

/-- The round ends: its entries become DONE, it leaves OPEN, and its alert is raised (R115, R130, R132). -/
theorem roundEnded_kept (kind : AlertKind) (st : RoundState) (o : EntryOutcome) (cs : List Column)
    (h : KeepsLists s t) :
    KeepsLists s (raiseAlert kind none (leaveOpen st (finishAll o cs t))) :=
  raiseAlert_kept _ _ (leaveOpen_kept _ (finishAll_kept o cs h))

/-! ### Reports to the round controller (R119 to R126) -/

theorem roundLocked_kept (h : KeepsLists s t) : KeepsLists s (roundLocked c t) := by
  unfold roundLocked
  split
  · split
    · exact setStage_kept _ (modSup_kept c _ h)
    · exact failEntry_kept c _ (takeFault_kept c _ h)
  · exact h

theorem deliverLocked_kept (h : KeepsLists s t) : KeepsLists s (deliverLocked c t) := by
  unfold deliverLocked
  split
  · exact roundLocked_kept c (modAccess_kept c _ h)
  · exact h

theorem roundOpened_kept (h : KeepsLists s t) : KeepsLists s (roundOpened c t) := by
  unfold roundOpened
  split
  · exact failEntry_kept c _ (withdrawPermit_kept c h)
  · exact h

theorem roundLiftOut_kept (h : KeepsLists s t) : KeepsLists s (roundLiftOut c t) :=
  h.framed (by simp)

theorem roundLiftIn_kept (h : KeepsLists s t) : KeepsLists s (roundLiftIn c t) := h.framed (by simp)

theorem roundLifted_kept (h : KeepsLists s t) : KeepsLists s (roundLifted c t) := by
  have failed := failEntry_kept c .unauthorisedLift h
  simp only [roundLifted]
  split
  · split
    · exact endDrain_kept c failed
    · exact failed
  · exact h

theorem roundMeasured_kept (fill : Option Nat) (h : KeepsLists s t) :
    KeepsLists s (roundMeasured c fill t) := by
  unfold roundMeasured
  split
  · exact reloadSupervision_kept (finishEntry_kept c _ _ _ _ h)
  · exact h

/-! ### The hatch, the lift and the latch (R4, R7 to R11) -/

theorem reportOpened_kept (h : KeepsLists s t) : KeepsLists s (reportOpened c t) := by
  have reported {u : State} (hu : KeepsLists s u) :
      KeepsLists s (deliverLocked c (abandonBurst c (roundOpened c (accessOpened c u)))) :=
    deliverLocked_kept c (abandonBurst_kept c (roundOpened_kept c (accessOpened_kept c hu)))
  simp only [reportOpened]
  split
  · exact reported (takeFault_kept c _ h)
  · exact reported h

theorem reportClosed_kept (h : KeepsLists s t) : KeepsLists s (reportClosed c t) :=
  deliverLocked_kept c (accessClosed_kept c h)

theorem rereadHatch_kept (h : KeepsLists s t) : KeepsLists s (rereadHatch c t) := by
  have read := modSup_kept c Supervisor.readHatch h
  simp only [rereadHatch]
  split
  · exact reportOpened_kept c read
  · exact read

theorem takeHatch_kept (closed : Bool) (h : KeepsLists s t) : KeepsLists s (takeHatch c closed t) := by
  have taken := takeInput_kept c .hatch closed h
  simp only [takeHatch]
  split
  · exact taken
  · exact modSup_kept c _ taken

theorem reportLift_kept (h : KeepsLists s t) : KeepsLists s (reportLift c t) :=
  deliverLocked_kept c (abandonBurst_kept c (roundLifted_kept c (accessLifted_kept c h)))

theorem markAbsent_kept (h : KeepsLists s t) : KeepsLists s (markAbsent c t) :=
  raiseAlert_kept _ _ (modSup_kept c _ h)

theorem liftTaken_kept (h : KeepsLists s t) : KeepsLists s (liftTaken c t) := by
  have taken := modSup_kept c Supervisor.ignoreHatch (takeInput_kept c .lift false h)
  simp only [liftTaken]
  split
  · exact taken
  · split
    · exact chooseNext_kept (abandonBurst_kept c (roundLiftOut_kept c taken))
    · exact chooseNext_kept (reportLift_kept c (markAbsent_kept c taken))

theorem returnTaken_kept (h : KeepsLists s t) : KeepsLists s (returnTaken c t) := by
  have taken := takeInput_kept c .lift true h
  simp only [returnTaken]
  split
  · exact modSup_kept c _ taken
  · exact chooseNext_kept (rereadHatch_kept c (enqueue_kept c (modSup_kept c _ taken)))
  all_goals exact chooseNext_kept (rereadHatch_kept c (roundLiftIn_kept c taken))

theorem contactTaken_kept (h : KeepsLists s t) : KeepsLists s (contactTaken c t) :=
  chooseNext_kept (deliverLocked_kept c (accessReport_kept c _ (contactJudged_kept c h)))

/-! ### Requests and timers of the round (R115, R118, R129) -/

theorem claim_kept (h : KeepsLists s t) : KeepsLists s (claim c t) :=
  chooseNext_kept (deliverLocked_kept c (drainRequest_kept c
    (abandonBurst_kept c (reloadSupervision_kept (h.framed (by simp))))))

theorem skip_kept (h : KeepsLists s t) : KeepsLists s (skip c t) := by
  have skipped {u : State} (hu : KeepsLists s u) : KeepsLists s
      (chooseNext (reloadSupervision (finishEntry c .skipped none none false u))) :=
    chooseNext_kept (reloadSupervision_kept (finishEntry_kept c _ _ _ _ hu))
  simp only [skip]
  split
  · exact skipped (endDrain_kept c h)
  · split
    · exact skipped (withdrawPermit_kept c h)
    · exact skipped h

theorem timeOutActive_kept (h : KeepsLists s t) : KeepsLists s (timeOutActive t) := by
  unfold timeOutActive
  split
  · exact h
  case h_2 e _ =>
    have failed := finishEntry_kept e.column .failed (some .timeout) none false h
    dsimp only
    split
    · exact endDrain_kept _ failed
    · split
      · exact withdrawPermit_kept _ failed
      · exact failed

theorem abortRound_kept (h : KeepsLists s t) : KeepsLists s (abortRound t) :=
  roundEnded_kept _ _ _ _ (timeOutActive_kept h)

/-! ### Ranging (R86 to R88) -/

theorem firePing_kept (h : KeepsLists s t) : KeepsLists s (firePing t) := by
  unfold firePing
  split
  · exact h
  case h_2 b hb =>
    split
    · exact h.engine (by simp) fun hr => hr.burst_changed hb rfl rfl
    · exact h

theorem handSuccess_kept (b : Burst) (mm : Nat) (h : KeepsLists s t) :
    KeepsLists s (handSuccess b mm t) := by
  have tracked (f : Head → Head) : KeepsLists s (trackSuccess b.column mm (t.modHead b.column f)) :=
    trackSuccess_kept _ mm (modHead_kept _ f h)
  simp only [handSuccess]
  split
  · exact roundMeasured_kept _ _ (tracked _)
  · exact tracked _

theorem handFailure_kept (b : Burst) (h : KeepsLists s t) : KeepsLists s (handFailure b t) := by
  have counted := countFailure_kept b.column h
  simp only [handFailure]
  split
  · exact roundMeasured_kept _ _ (trackEmptied_kept _ counted)
  · exact counted

theorem finishBurst_kept (b : Burst) (h : KeepsLists s t) : KeepsLists s (finishBurst b t) := by
  have ended := endBurst_kept h
  refine chooseNext_kept ?_
  split
  · exact handSuccess_kept b _ ended
  · exact handFailure_kept b ended
  · exact handFailure_kept b ended

/-- A window closes in the burst that is in progress (R87). -/
theorem closeWindow_kept {b : Burst} (r : PingResult) (hb : t.ranging.burst = some b)
    (h : KeepsLists s t) : KeepsLists s (closeWindow b r t) := by
  have closed (d : Burst) (hcolumn : d.column = b.column) (hpurpose : d.purpose = b.purpose) :
      KeepsLists s { t with ranging := { t.ranging with burst := some d } } :=
    h.engine (by simp) fun hr => hr.burst_changed hb hcolumn hpurpose
  simp only [closeWindow]
  split
  · exact finishBurst_kept _ (closed _ rfl rfl)
  · exact closed _ rfl rfl

/-! ### A profile write (R16, R105, R106, R171) -/

theorem disableColumn_kept (h : KeepsLists s t) : KeepsLists s (disableColumn c t) :=
  dropColumn_kept c (modAccess_kept c _ (modSup_kept c _ h))

theorem enableColumn_kept (h : KeepsLists s t) : KeepsLists s (enableColumn c t) := by
  have reported {u : State} (hu : KeepsLists s u) :
      KeepsLists s (if u.sups[c].hatchOpen then reportOpened c u else u) := by
    split
    · exact reportOpened_kept c hu
    · exact hu
  have enabled := modSup_kept c Supervisor.enable h
  simp only [enableColumn]
  split
  · exact enabled
  · refine reported ?_
    split
    · exact enabled
    · exact takeFault_kept c _ enabled

theorem switchColumn_kept (before : Profile) (x : Setting) (h : KeepsLists s t) :
    KeepsLists s (switchColumn before t x) := by
  simp only [switchColumn]
  split
  · split
    · exact enableColumn_kept _ h
    · exact disableColumn_kept _ h
  · exact h

theorem rejudgeBands_kept (before : Profile) (h : KeepsLists s t) :
    KeepsLists s (rejudgeBands before t) := by
  unfold rejudgeBands
  split
  · exact h
  · exact foldl_kept (fun c hu => recomputeBand_kept c hu) _ h

theorem applySettings_kept (xs : List Setting) (h : KeepsLists s t) :
    KeepsLists s (applySettings xs t) :=
  chooseNext_kept (rejudgeBands_kept _
    (foldl_kept (fun x hu => switchColumn_kept _ x hu) xs (h.framed (by simp))))

/-! ### The restarts (R18, R83, R84, R108, R132, R158, R173, R174) -/

theorem restartSupervisor_kept (h : KeepsLists s t) : KeepsLists s (restartSupervisor t c) := by
  have withdrawn := withdrawPermit_kept c h
  simp only [restartSupervisor]
  split
  · exact withdrawn
  · exact withdrawn.framed (by simp)

theorem settleGrant_kept (h : KeepsLists s t) : KeepsLists s (settleGrant t c) := by
  unfold settleGrant
  split
  · exact h
  · split
    · exact undoGrant_kept c h
    · exact undoGrant_kept c h
    · exact settleOpened_kept c _ _ _ h
    all_goals exact h

theorem restartAccess_kept (h : KeepsLists s t) : KeepsLists s (restartAccess t c) := by
  simp only [restartAccess]
  split
  · exact modAccess_kept c _ h
  · exact abandonBurst_kept c (modAccess_kept c _ h)

theorem restartMachines_kept (h : KeepsLists s t) : KeepsLists s (restartMachines t) :=
  foldl_kept (fun c hu => restartAccess_kept c hu) _ (foldl_kept (fun c hu => settleGrant_kept c hu) _ h)

theorem withdrawActive_kept (h : KeepsLists s t) : KeepsLists s (withdrawActive t) := by
  unfold withdrawActive
  split
  · exact h
  · exact withdrawPermit_kept _ h

theorem restartRound_kept (h : KeepsLists s t) : KeepsLists s (restartRound t) := by
  unfold restartRound
  split
  · exact roundEnded_kept _ _ _ _ (withdrawActive_kept h)
  · exact h

/-- The engine starts afresh with an empty queue and no burst, and its scan waits for no pause. -/
theorem restartEngine_kept (h : KeepsLists s t) : KeepsLists s (restartEngine t) :=
  h.engine rfl fun _ => ⟨List.nodup_nil, nofun, nofun⟩

theorem restartAlerts_kept (h : KeepsLists s t) : KeepsLists s (restartAlerts t) :=
  h.alerted fun _ => .of_empty rfl

theorem restartBlock_kept {block : State → State} (hb : block ∈ restartBlocks)
    (h : KeepsLists s t) : KeepsLists s (block t) := by
  simp only [restartBlocks, List.mem_cons, List.not_mem_nil, or_false] at hb
  rcases hb with rfl | rfl | rfl | rfl | rfl | rfl | rfl
  · exact foldl_kept (fun c hu => restartSupervisor_kept c hu) allColumns h
  · exact restartMachines_kept h
  · exact h.framed rfl
  · exact restartRound_kept h
  · exact restartEngine_kept h
  · exact h.framed rfl
  · exact restartAlerts_kept h

theorem endRestart_kept (h : KeepsLists s t) : KeepsLists s (endRestart t) := h.framed rfl

theorem softRestart_kept (h : KeepsLists s t) : KeepsLists s (softRestart t) := by
  have blocks (l : List (State → State)) (hl : ∀ block ∈ l, block ∈ restartBlocks) {u : State}
      (hu : KeepsLists s u) : KeepsLists s (l.foldl (fun s block => block s) u) := by
    induction l generalizing u with
    | nil => exact hu
    | cons block l ih =>
      obtain ⟨hblock, hl⟩ := List.forall_mem_cons.mp hl
      exact ih hl (restartBlock_kept hblock hu)
  exact endRestart_kept (blocks restartBlocks (fun _ hb => hb) h)

theorem restartNext_kept (h : KeepsLists s t) : KeepsLists s (restartNext t) := by
  have first {block : State → State} {rest : List (State → State)}
      (hdrop : restartBlocks.drop t.restarted = block :: rest) : KeepsLists s (block t) :=
    restartBlock_kept (List.mem_of_mem_drop (hdrop ▸ List.mem_cons_self)) h
  unfold restartNext
  split
  · exact endRestart_kept h
  case h_2 hdrop => exact chooseNext_kept (endRestart_kept (first hdrop))
  case h_3 hdrop => exact chooseNext_kept ((first hdrop).framed rfl)

/-- A full reset leaves an empty list, an idle engine, estimates at 0 and an empty journal (R107, R148,
R157). -/
theorem fullReset_kept (s : State) : KeepsLists s (fullReset s) where
  alerts _ := .of_empty rfl
  ranging _ := ⟨List.nodup_nil, nofun, nofun⟩
  fills _ c := by simp [fullReset, State.reset, Fill.reset]
  journal _ := ⟨Nat.zero_le _, nofun⟩

end

end Sys2Proof.Proofs.AlertLists
end

section
/-! Proofs, ListCommands: every command, and so every step, keeps the laws of the alert list, of the queue and the scan, of the estimates and of the journal's order (R92, R94, R95, R98, R135, R144, R150). -/

namespace Sys2Proof.Proofs.AlertLists

open Sys2Proof Sys2Proof.Machine

/-! ### A request (R162, R163) -/

/-- A request's action keeps the four laws. -/
def ActionKeeps (act : State → State × List Byte) : Prop := ∀ u, KeepsLists u (act u).1

/-- A request's action changes none of the four blocks. -/
theorem actionKeeps_framed {act : State → State × List Byte} (h : ∀ u, lists (act u).1 = lists u) :
    ActionKeeps act := fun u => (KeepsLists.refl u).framed (h u)

section
variable {body : List Byte}

theorem withNoBody_kept {act : State → State × List Byte} (h : ActionKeeps act) :
    ActionKeeps (withNoBody body act) := fun u => by
  unfold withNoBody
  split
  · exact h u
  · exact .refl u

theorem withByte_kept {act : Byte → State → State × List Byte} (h : ∀ b, ActionKeeps (act b)) :
    ActionKeeps (withByte body act) := fun u => by
  unfold withByte
  split
  · exact h _ u
  · exact .refl u

theorem withTwoBytes_kept {act : Byte → Byte → State → State × List Byte}
    (h : ∀ a b, ActionKeeps (act a b)) : ActionKeeps (withTwoBytes body act) := fun u => by
  unfold withTwoBytes
  split
  · exact h _ _ u
  · exact .refl u

theorem withColumn_kept {act : Column → State → State × List Byte} (h : ∀ c, ActionKeeps (act c)) :
    ActionKeeps (withColumn body act) :=
  withByte_kept fun b u => by
    split
    · exact .refl u
    · exact h _ u

theorem unlessTransfer_kept {act : State → State × List Byte} (h : ActionKeeps act) :
    ActionKeeps (unlessTransfer act) := fun u => by
  unfold unlessTransfer
  split
  · exact .refl u
  · exact h u

end

/-- An event keeps the laws if its effect does: so does the choice that is due before it. -/
theorem event_kept {f : State → State} {s t : State} (h : event f s = .next t)
    (effect : ∀ u, KeepsLists u (f u)) : KeepsLists s t := by
  cases h
  refine KeepsLists.trans ?_ (effect s.ready)
  unfold State.ready
  split
  · exact chooseNext_kept (.refl s)
  · exact .refl s

theorem request_kept {kind : Byte} {act : State → State × List Byte} {s t : State}
    (h : event (serve kind act) s = .next t) (action : ActionKeeps act) : KeepsLists s t :=
  event_kept h fun u => by
    unfold serve
    split
    · exact (KeepsLists.refl u).framed (by simp)
    · have served : KeepsLists u (act (hostFrameEnds u)).1 := (action (hostFrameEnds u)).after (by simp)
      exact served.framed rfl

/-! ### The requests (02 to 09) -/

section
variable (body : List Byte)

theorem timeSet_kept : ActionKeeps (timeSet body) := actionKeeps_framed fun u => by
  simp only [timeSet]
  repeat' split
  all_goals rfl

theorem profileWrite_kept : ActionKeeps (profileWrite body) := fun u => by
  unfold profileWrite
  split
  · exact .refl u
  · split
    · exact .refl u
    · split
      · exact .refl u
      · exact applySettings_kept _ (.refl u)

theorem profileRead_kept : ActionKeeps (profileRead body) :=
  withByte_kept fun _ => actionKeeps_framed fun u => by
    split
    · rfl
    · split <;> rfl

theorem alertFetch_kept : ActionKeeps (alertFetch body) :=
  withByte_kept fun n u => by
    split
    · exact .refl u
    · exact (KeepsLists.refl u).alerted fun ha => ha.taken n.toNat

theorem alertFloor_kept : ActionKeeps (alertFloor body) :=
  withByte_kept fun _ u => by
    split
    · exact .refl u
    · exact (KeepsLists.refl u).alerted fun ha => ⟨ha.room, ha.once⟩

theorem transferRequest_kept (kind : TransferKind) : ActionKeeps (transferRequest kind body) :=
  withTwoBytes_kept fun _ _ => unlessTransfer_kept (actionKeeps_framed fun u => by
    split
    · rfl
    · split <;> rfl)

theorem finalWrite_lists (x : Transfer) (u : State) : lists (finalWrite x u).1 = lists u := by
  unfold finalWrite
  split <;> rfl

theorem finalVerify_lists (x : Transfer) (u : State) : lists (finalVerify x u).1 = lists u := by
  unfold finalVerify
  split <;> rfl

theorem tableData_kept (more : Bool) : ActionKeeps (tableData more body) :=
  actionKeeps_framed fun u => by
    unfold tableData
    split
    · rfl
    · split
      · rfl
      · dsimp only
        split
        · rfl
        · split
          · exact finalWrite_lists _ _
          · exact finalVerify_lists _ _

theorem tableErase_kept : ActionKeeps (tableErase body) :=
  withTwoBytes_kept fun _ _ => unlessTransfer_kept (actionKeeps_framed fun u => by
    split
    · rfl
    · split <;> rfl)

theorem tableSum_kept : ActionKeeps (tableSum body) :=
  withTwoBytes_kept fun _ _ => actionKeeps_framed fun u => by split <;> rfl

theorem tablePin_kept : ActionKeeps (tablePin body) :=
  withTwoBytes_kept fun _ _ => unlessTransfer_kept (actionKeeps_framed fun u => by split <;> rfl)

theorem tableRelease_kept : ActionKeeps (tableRelease body) :=
  withNoBody_kept (unlessTransfer_kept (actionKeeps_framed fun u => by
    split
    · rfl
    · split <;> rfl))

theorem cardQuery_kept : ActionKeeps (cardQuery body) := actionKeeps_framed fun u => by
  simp only [cardQuery]
  repeat' split
  all_goals rfl

theorem cardModify_kept : ActionKeeps (cardModify body) := actionKeeps_framed fun u => by
  simp only [cardModify]
  repeat' split
  all_goals rfl

theorem columnService_kept : ActionKeeps (columnService body) :=
  withColumn_kept fun c u => by
    split
    · exact .refl u
    · split
      · exact .refl u
      · exact chooseNext_kept (enqueue_kept c (modSup_kept c _ (.refl u)))

theorem columnWithdraw_kept : ActionKeeps (columnWithdraw body) :=
  withColumn_kept fun _ => actionKeeps_framed fun u => by split <;> rfl

theorem columnMeasure_kept : ActionKeeps (columnMeasure body) :=
  withColumn_kept fun c u => by
    split
    · exact .refl u
    · exact chooseNext_kept (enqueue_kept c (.refl u))

theorem roundOpen_kept : ActionKeeps (roundOpen body) := fun u => by
  unfold roundOpen
  split
  · split
    · exact .refl u
    · split
      · exact .refl u
      · split
        · exact .refl u
        · split
          · exact .refl u
          · exact reserve_kept _ ((KeepsLists.refl u).framed rfl)
  · exact .refl u

theorem roundClaim_kept : ActionKeeps (roundClaim body) :=
  withColumn_kept fun c u => by
    split
    · exact .refl u
    · exact claim_kept c (.refl u)

theorem roundSkip_kept : ActionKeeps (roundSkip body) :=
  withColumn_kept fun c u => by
    split
    · exact .refl u
    · exact skip_kept c (.refl u)

theorem roundKeep_kept : ActionKeeps (roundKeep body) :=
  withNoBody_kept (actionKeeps_framed fun u => by split <;> rfl)

theorem roundClose_kept : ActionKeeps (roundClose body) :=
  withNoBody_kept fun u => by
    split
    · exact .refl u
    · split
      · exact .refl u
      · exact roundEnded_kept _ _ _ _ (.refl u)

/-- The mark goes on from the head or from where it stood by what is delivered (R144, R145). -/
theorem journalRead_kept : ActionKeeps (journalRead body) :=
  withTwoBytes_kept fun n restart u => by
    split
    · exact .refl u
    · refine (KeepsLists.refl u).journaled fun hj => hj.marked ?_
      have hmark : (if restart.toNat = 1 then 0 else u.journal.readMark) ≤ u.journal.records.length := by
        split
        · exact Nat.zero_le _
        · exact hj.mark
      rw [List.length_take, List.length_drop]
      omega

theorem journalRelease_kept : ActionKeeps (journalRelease body) :=
  withTwoBytes_kept fun n1 n0 u => by
    dsimp only
    split
    · exact .refl u
    · exact (KeepsLists.refl u).journaled fun hj => hj.released (number [n1, n0])

end

/-! ### The events -/

section
variable {s t : State} {c : Column}

theorem reach_kept (due : Nat) (h : KeepsLists s t) : KeepsLists s (reach due t) :=
  h.framed (by simp)

theorem readerFrameEnds_kept (h : KeepsLists s t) : KeepsLists s (readerFrameEnds t) :=
  h.framed (by simp)

theorem discardFrame_kept (line : Line) (h : KeepsLists s t) : KeepsLists s (discardFrame line t) := by
  unfold discardFrame
  split
  · split
    · exact h.framed (by simp)
    · exact h
  · split
    · exact readerFrameEnds_kept h
    · exact h

theorem execInterbyteGap_kept {line : Line} (h : execInterbyteGap line s = .next t) :
    KeepsLists s t :=
  event_kept h fun u => by
    split
    · exact .refl u
    · exact discardFrame_kept line (reach_kept _ (.refl u))

theorem execPresent_kept {card : CardNumber} (h : execPresent c card s = .next t) :
    KeepsLists s t :=
  event_kept h fun u => by
    have ended := readerFrameEnds_kept (.refl u)
    split
    · exact .refl u
    · split
      · exact ended
      · exact takePresent_kept c card ended

theorem execReaderFrameRejected_kept {cause : RejectCause}
    (h : execReaderFrameRejected cause s = .next t) : KeepsLists s t :=
  event_kept h fun u => by
    split
    · exact .refl u
    · exact readerFrameEnds_kept (.refl u)

theorem execVerdictSent_kept (h : execVerdictSent s = .next t) : KeepsLists s t :=
  event_kept h fun u => by
    split
    · exact (KeepsLists.refl u).framed (by simp)
    · exact .refl u

theorem execFrameWhileRequestInHand_kept (h : execFrameWhileRequestInHand s = .next t) :
    KeepsLists s t :=
  event_kept h fun u => by
    split
    · exact (KeepsLists.refl u).framed (by simp)
    · exact .refl u

theorem execStartMark_kept {line : Line} (h : execStartMark line s = .next t) : KeepsLists s t :=
  event_kept h fun u => by
    split
    · exact (KeepsLists.refl u).framed (by simp)
    · split
      · exact .refl u
      · exact (KeepsLists.refl u).framed (by simp)

theorem execReplySent_kept (h : execReplySent s = .next t) : KeepsLists s t :=
  event_kept h fun u => (KeepsLists.refl u).framed (by simp)

theorem execClockAdvance_kept (h : execClockAdvance s = .next t) : KeepsLists s t :=
  event_kept h fun u => (KeepsLists.refl u).framed (by simp)

theorem execInputLevelChange_kept {i : Input} {closed : Bool}
    (h : execInputLevelChange c i closed s = .next t) : KeepsLists s t :=
  event_kept h fun u => modSup_kept c _ (.refl u)

theorem execTransferWatchExpiry_kept (h : execTransferWatchExpiry s = .next t) : KeepsLists s t :=
  event_kept h fun u => by
    split
    · exact .refl u
    · exact raiseAlert_kept _ _ ((KeepsLists.refl u).framed (by simp))

theorem execHatchOpened_kept (h : execHatchOpened c s = .next t) : KeepsLists s t :=
  event_kept h fun u => by
    have taken := takeHatch_kept c false (.refl u)
    split
    · dsimp only
      split
      · exact chooseNext_kept (reportOpened_kept c taken)
      · exact taken
    · exact .refl u

theorem execHatchClosed_kept (h : execHatchClosed c s = .next t) : KeepsLists s t :=
  event_kept h fun u => by
    have taken := takeHatch_kept c true (.refl u)
    split
    · exact .refl u
    · dsimp only
      split
      · exact chooseNext_kept (reportClosed_kept c taken)
      · exact taken

theorem execLiftOut_kept (h : execLiftOut c s = .next t) : KeepsLists s t :=
  event_kept h fun u => by
    split
    · exact .refl u
    · exact liftTaken_kept c (.refl u)

theorem execLiftIn_kept (h : execLiftIn c s = .next t) : KeepsLists s t :=
  event_kept h fun u => by
    split
    · exact returnTaken_kept c (.refl u)
    · exact .refl u

theorem execLatchContactChange_kept {k : Contact} {made : Bool}
    (h : execLatchContactChange c k made s = .next t) : KeepsLists s t :=
  event_kept h fun u => by
    have taken := takeInput_kept c (.contact k) made (.refl u)
    split
    · exact .refl u
    · dsimp only
      split
      · exact modSup_kept c _ taken
      · exact contactTaken_kept c taken

theorem execLatchTravelTimeout_kept (h : execLatchTravelTimeout c s = .next t) : KeepsLists s t :=
  event_kept h fun u => by
    split
    · exact .refl u
    · exact chooseNext_kept (deliverLocked_kept c (accessFailed_kept c (failLatch_kept c
        (reach_kept _ (.refl u)))))

theorem execGrantTimerExpiry_kept (h : execGrantTimerExpiry c s = .next t) : KeepsLists s t :=
  event_kept h fun u => by
    split
    · exact .refl u
    · split
      · exact chooseNext_kept (deliverLocked_kept c (cutGrant_kept c _ (reach_kept _ (.refl u))))
      · exact .refl u

theorem execOpenTimerExpiry_kept (h : execOpenTimerExpiry c s = .next t) : KeepsLists s t :=
  event_kept h fun u => by
    split
    · exact .refl u
    · split
      · exact takeFault_kept c _ (modAccess_kept c _ (reach_kept _ (.refl u)))
      · exact .refl u

theorem execLatchRestExpiry_kept (h : execLatchRestExpiry c s = .next t) : KeepsLists s t :=
  event_kept h fun u => by
    split
    · exact .refl u
    case h_2 due _ =>
      have rested := modAccess_kept c (fun a => { a with rest := none }) (reach_kept due (.refl u))
      dsimp only
      split
      · exact rested.framed (by simp)
      · exact rested

theorem execEcho_kept {counter : Nat} (h : execEcho counter s = .next t) : KeepsLists s t :=
  event_kept h fun u => by
    split
    · exact .refl u
    case h_2 b hb =>
      split
      · exact .refl u
      case h_2 opened _ =>
        have reached := reach_kept (counterTime opened counter) (.refl u)
        split
        · exact .refl u
        · dsimp only
          split
          · exact reached
          · exact closeWindow_kept _ hb reached

theorem execNoEcho_kept (h : execNoEcho s = .next t) : KeepsLists s t :=
  event_kept h fun u => by
    split
    · exact .refl u
    case h_2 b hb =>
      split
      · exact .refl u
      · exact closeWindow_kept _ hb (reach_kept _ (.refl u))

theorem execScanPauseExpiry_kept (h : execScanPauseExpiry s = .next t) : KeepsLists s t :=
  event_kept h fun u => by
    split
    · exact .refl u
    case h_2 due _ =>
      exact chooseNext_kept ((reach_kept due (.refl u)).engine (by simp) fun hr => hr.unpaused)

theorem execSupervisionTimerExpiry_kept (h : execSupervisionTimerExpiry s = .next t) :
    KeepsLists s t :=
  event_kept h fun u => by
    split
    · exact .refl u
    · split
      · exact chooseNext_kept (abortRound_kept (reach_kept _ (.refl u)))
      · exact .refl u

theorem execSettleTimerExpiry_kept (h : execSettleTimerExpiry s = .next t) : KeepsLists s t :=
  event_kept h fun u => by
    split
    · exact .refl u
    case h_2 due _ =>
      have stopped : KeepsLists u
          { reach due u with round := { (reach due u).round with settleTimer := none } } :=
        (reach_kept due (.refl u)).framed (by simp)
      dsimp only
      split
      · exact stopped
      · split
        · exact chooseNext_kept (frontRequest_kept _ (setStage_kept _ stopped))
        · exact stopped

/-! ### Every command and every step -/

theorem exec_kept (i : Instr) (h : exec i s = .next t) : KeepsLists s t := by
  cases i with
  | identify body => exact request_kept h (withNoBody_kept .refl)
  | status body => exact request_kept h (withNoBody_kept .refl)
  | restart body => exact request_kept h (withNoBody_kept .refl)
  | softRestart => exact event_kept h fun u => softRestart_kept (.refl u)
  | timeSet body => exact request_kept h (timeSet_kept body)
  | periodSet body => exact request_kept h (withTwoBytes_kept fun _ _ => actionKeeps_framed fun _ => rfl)
  | profileWrite body => exact request_kept h (profileWrite_kept body)
  | profileRead body => exact request_kept h (profileRead_kept body)
  | alertFetch body => exact request_kept h (alertFetch_kept body)
  | alertFloor body => exact request_kept h (alertFloor_kept body)
  | tableWrite body => exact request_kept h (transferRequest_kept body .write)
  | tableData more body => exact request_kept h (tableData_kept body more)
  | tableVerify body => exact request_kept h (transferRequest_kept body .verify)
  | tableErase body => exact request_kept h (tableErase_kept body)
  | tableSum body => exact request_kept h (tableSum_kept body)
  | tablePin body => exact request_kept h (tablePin_kept body)
  | tableRelease body => exact request_kept h (tableRelease_kept body)
  | cardQuery body => exact request_kept h (cardQuery_kept body)
  | cardModify body => exact request_kept h (cardModify_kept body)
  | columnRead body => exact request_kept h (withColumn_kept fun _ => .refl)
  | columnService body => exact request_kept h (columnService_kept body)
  | columnWithdraw body => exact request_kept h (columnWithdraw_kept body)
  | columnMeasure body => exact request_kept h (columnMeasure_kept body)
  | roundOpen body => exact request_kept h (roundOpen_kept body)
  | roundClaim body => exact request_kept h (roundClaim_kept body)
  | roundSkip body => exact request_kept h (roundSkip_kept body)
  | roundKeep body => exact request_kept h (roundKeep_kept body)
  | roundClose body => exact request_kept h (roundClose_kept body)
  | roundRead body => exact request_kept h (withNoBody_kept .refl)
  | journalRead body => exact request_kept h (journalRead_kept body)
  | journalRelease body => exact request_kept h (journalRelease_kept body)
  | checkError => exact request_kept h (actionKeeps_framed fun _ => rfl)
  | unknownKind kind => exact request_kept h .refl
  | frameWhileRequestInHand => exact execFrameWhileRequestInHand_kept h
  | frameDiscard line cause => exact event_kept h fun u => discardFrame_kept line (.refl u)
  | interbyteGap line => exact execInterbyteGap_kept h
  | replySent => exact execReplySent_kept h
  | transferWatchExpiry => exact execTransferWatchExpiry_kept h
  | present c card => exact execPresent_kept h
  | readerFrameRejected cause => exact execReaderFrameRejected_kept (cause := cause) h
  | verdictSent => exact execVerdictSent_kept h
  | fullReset => cases h; exact fullReset_kept s
  | clockAdvance => exact execClockAdvance_kept h
  | inputLevelChange c i closed => exact execInputLevelChange_kept h
  | hatchOpened c => exact execHatchOpened_kept h
  | hatchClosed c => exact execHatchClosed_kept h
  | liftOut c => exact execLiftOut_kept h
  | liftIn c => exact execLiftIn_kept h
  | latchContactChange c k made => exact execLatchContactChange_kept h
  | latchTravelTimeout c => exact execLatchTravelTimeout_kept h
  | grantTimerExpiry c => exact execGrantTimerExpiry_kept h
  | openTimerExpiry c => exact execOpenTimerExpiry_kept h
  | latchRestExpiry c => exact execLatchRestExpiry_kept h
  | ping => exact event_kept h fun u => firePing_kept (.refl u)
  | echo counter => exact execEcho_kept h
  | noEcho => exact execNoEcho_kept h
  | scanPauseExpiry => exact execScanPauseExpiry_kept h
  | supervisionTimerExpiry => exact execSupervisionTimerExpiry_kept h
  | settleTimerExpiry => exact execSettleTimerExpiry_kept h
  | startMark line => exact execStartMark_kept h

theorem takeDue_kept {i : Instr} (h : takeDue i s = .next t) : KeepsLists s t := by
  unfold takeDue at h
  split at h
  · cases h; exact restartNext_kept (.refl s)
  · exact exec_kept i h

theorem arrive_kept {line : Line} {heard : Heard} (h : arrive line heard s = .next t) :
    KeepsLists s t := by
  unfold arrive at h
  split at h
  · cases h; exact .refl s
  · split at h
    · cases h; exact (KeepsLists.refl s).framed (by simp)
    · exact exec_kept _ h

theorem tick_kept (h : tick s = .next t) : KeepsLists s t := by
  rcases tick_cases s with ⟨-, ht⟩ | ⟨-, line, heard, rest, -, hline⟩ | ⟨-, -, -, ht⟩ |
    ⟨-, -, i, -, ht⟩
  · rw [ht] at h; cases h
    exact chooseNext_kept (.refl s)
  · rcases hline with ⟨-, ht⟩ | ⟨r, -, -, ht⟩
    · exact (arrive_kept (s := { s with arriving := rest }) (ht ▸ h)).after (by simp)
    · exact exec_kept _ (ht ▸ h)
  · rw [ht] at h; cases h
    exact (KeepsLists.refl s).framed (by simp)
  · exact (takeDue_kept (s := { s with draws := s.draws + 1 }) (ht ▸ h)).after (by simp)

/-- Every step keeps the four laws, each by itself. -/
theorem step_kept (h : step s = .next t) : KeepsLists s t := by
  unfold step at h
  split at h
  · exact tick_kept h
  case h_2 i rest _ => exact (exec_kept (s := { s with pending := rest }) i h).after (by simp)

end

/-- Settles O53: every change of the alert list, of the engine, of an estimate and of the journal keeps
the law of its block, and a step is made of such changes. -/
theorem stepKeepsListLaws : Obligations.StepKeepsListLaws := by
  intro s t h
  rw [alertLaw_iff, alertLaw_iff, rangingLaw_iff, rangingLaw_iff, journalOrderLaw_iff,
    journalOrderLaw_iff]
  have kept := step_kept h
  exact ⟨kept.alerts, fun ⟨hscan, hscale⟩ => ⟨kept.ranging hscan, kept.fills hscale⟩, kept.journal⟩

end Sys2Proof.Proofs.AlertLists
end

section
/-! Proofs, Footprints: the parts of the machine that a command may change, and one change of each part (09 9.7, 01 to 08: chapter heads). -/

namespace Sys2Proof.Proofs.Footprints

open Sys2Proof Sys2Proof.Machine
open Sys2Proof.Proofs.CardTables (Holds lookup_holds setEntry_pinned setEntry_entries_self setEntry_other)

/-! ### The parts -/

/-- A part of the machine that has commands of its own. `dropped` is the count of dropped alerts, and
`roundState` the round's state with its id. -/
inductive Part where
  | time
  | clock
  | period
  | profile
  | table
  | records
  | readMark
  | floor
  | dropped
  | transfer
  | linkErrors
  | readerFrame
  | roundState
  | column (c : Column)
  | fill (c : Column)
  | arriving

/-- The card table but for the staging block and the dynamic fields of its entries (R21, R26). -/
structure SameCards (t u : CardTable) : Prop where
  provisional : u.provisional = t.provisional
  blocks : ∀ b : Fin 64, u.blocks[b].pinned = t.blocks[b].pinned ∧
    u.blocks[b].entries.map (·.host) = t.blocks[b].entries.map (·.host)

/-- The state `t` has come of the state `s` by changes of the parts in `L` alone. Records may join the
journal, the saturated count of dropped alerts may rise, and the engine, the queue's verdicts and the rest
of the round go their way in any event. -/
structure Within (L : Part → Prop) (s t : State) : Prop where
  pending : t.pending = s.pending
  draws : t.draws = s.draws
  arriving : ¬L .arriving → t.arriving = s.arriving
  time : ¬L .time → t.now = s.now
  clock : ¬L .clock → t.clock = s.clock
  period : ¬L .period → t.period = s.period
  profile : ¬L .profile → t.profile = s.profile
  table : ¬L .table → SameCards s.table t.table
  records : ¬L .records → s.journal.records <+: t.journal.records
  readMark : ¬L .readMark → t.journal.readMark = s.journal.readMark
  floor : ¬L .floor → t.alerts.floor = s.alerts.floor
  dropped : ¬L .dropped → s.alerts.dropped ≤ 255 →
    s.alerts.dropped ≤ t.alerts.dropped ∧ t.alerts.dropped ≤ 255
  transfer : ¬L .transfer → t.host.transfer = s.host.transfer
  linkErrors : ¬L .linkErrors → t.host.linkErrors = s.host.linkErrors
  readerFrame : ¬L .readerFrame → t.reader.frame = s.reader.frame
  roundState : ¬L .roundState → t.round.state = s.round.state ∧ t.round.id = s.round.id
  column : ∀ k : Column, ¬L (.column k) → t.sups[k] = s.sups[k] ∧ t.access[k] = s.access[k] ∧
    t.ranging.heads[k].last = s.ranging.heads[k].last
  fill : ∀ k : Column, ¬L (.fill k) → t.fills[k] = s.fills[k]

/-! ### The card table -/

section
variable {t u v : CardTable}

theorem SameCards.refl (t : CardTable) : SameCards t t := ⟨rfl, fun _ => ⟨rfl, rfl⟩⟩

theorem SameCards.trans (h : SameCards t u) (h' : SameCards u v) : SameCards t v :=
  ⟨h'.provisional.trans h.provisional, fun b =>
    ⟨(h'.blocks b).1.trans (h.blocks b).1, (h'.blocks b).2.trans (h.blocks b).2⟩⟩

/-- An entry rewritten with its host-loaded fields kept. -/
theorem sameCards_setEntry {b : Fin 64} {i : Nat} {e f : Entry} (held : Holds t b i e)
    (host : f.host = e.host) : SameCards t (t.setEntry b i f) := by
  refine ⟨rfl, fun k => ⟨setEntry_pinned t b k i f, ?_⟩⟩
  by_cases hk : k = b
  · subst hk
    have hi : (t.blocks[k].entries.map (·.host))[i]? = some f.host := by
      rw [List.getElem?_map, (held : t.blocks[k].entries[i]? = some e), host]
      rfl
    obtain ⟨hlt, hget⟩ := List.getElem?_eq_some_iff.mp hi
    rw [setEntry_entries_self, List.map_set, ← hget, List.set_getElem_self]
  · rw [setEntry_other _ _ _ hk]

theorem sameCards_charge (card : CardNumber) (period : BitVec 16) :
    SameCards t (t.charge card period).1 := by
  unfold CardTable.charge
  split
  · exact .refl t
  · rename_i h
    exact sameCards_setEntry (lookup_holds h).1 rfl

theorem sameCards_refund (card : CardNumber) (granted current : BitVec 16) :
    SameCards t (t.refund card granted current) := by
  unfold CardTable.refund
  split
  · exact .refl t
  · rename_i h
    split
    · exact sameCards_setEntry (lookup_holds h).1 rfl
    · exact .refl t

theorem sameCards_useCount (card : CardNumber) : SameCards t (t.useCount card) := by
  unfold CardTable.useCount
  split
  · exact .refl t
  · rename_i h
    exact sameCards_setEntry (lookup_holds h).1 rfl

end

/-! ### One part changed

Each lemma goes on from a state `t` that has come of `s` within `L`, so that the proof about an operation
reads as its definition does. -/

section
variable {L : Part → Prop} {s t : State} {c : Column}

theorem Within.refl (s : State) : Within L s s where
  pending := rfl
  draws := rfl
  arriving _ := rfl
  time _ := rfl
  clock _ := rfl
  period _ := rfl
  profile _ := rfl
  table _ := .refl _
  records _ := List.prefix_refl _
  readMark _ := rfl
  floor _ := rfl
  dropped _ h := ⟨le_rfl, h⟩
  transfer _ := rfl
  linkErrors _ := rfl
  readerFrame _ := rfl
  roundState _ := ⟨rfl, rfl⟩
  column _ _ := ⟨rfl, rfl, rfl⟩
  fill _ _ := rfl

/-- A larger footprint says less. -/
theorem Within.mono {M : Part → Prop} (h : Within L s t) (hLM : ∀ p, L p → M p) : Within M s t where
  pending := h.pending
  draws := h.draws
  arriving hp := h.arriving (hp ∘ hLM _)
  time hp := h.time (hp ∘ hLM _)
  clock hp := h.clock (hp ∘ hLM _)
  period hp := h.period (hp ∘ hLM _)
  profile hp := h.profile (hp ∘ hLM _)
  table hp := h.table (hp ∘ hLM _)
  records hp := h.records (hp ∘ hLM _)
  readMark hp := h.readMark (hp ∘ hLM _)
  floor hp := h.floor (hp ∘ hLM _)
  dropped hp := h.dropped (hp ∘ hLM _)
  transfer hp := h.transfer (hp ∘ hLM _)
  linkErrors hp := h.linkErrors (hp ∘ hLM _)
  readerFrame hp := h.readerFrame (hp ∘ hLM _)
  roundState hp := h.roundState (hp ∘ hLM _)
  column k hp := h.column k (hp ∘ hLM _)
  fill k hp := h.fill k (hp ∘ hLM _)

theorem modSup_within (hc : L (.column c)) (f : Supervisor → Supervisor) (h : Within L s t) :
    Within L s (t.modSup c f) :=
  { h with
    column := fun k hk => by
      have hne : k ≠ c := fun e => hk (e ▸ hc)
      obtain ⟨hsup, hother⟩ := h.column k hk
      exact ⟨(State.modSup_other t c f hne).trans hsup, hother⟩ }

theorem modAccess_within (hc : L (.column c)) (f : Access → Access) (h : Within L s t) :
    Within L s (t.modAccess c f) :=
  { h with
    column := fun k hk => by
      have hne : k ≠ c := fun e => hk (e ▸ hc)
      obtain ⟨hsup, haccess, hlast⟩ := h.column k hk
      exact ⟨hsup, (State.modAccess_other t c f hne).trans haccess, hlast⟩ }

theorem modFill_within (hc : L (.fill c)) (f : Fill → Fill) (h : Within L s t) :
    Within L s (t.modFill c f) :=
  { h with
    fill := fun k hk =>
      (State.modFill_other t c f fun e : k = c => hk (e ▸ hc)).trans (h.fill k hk) }

/-- The engine changed, the last distances kept. -/
theorem Within.engine (h : Within L s t) {r : Ranging}
    (hlast : ∀ k : Column, ¬L (.column k) → r.heads[k].last = t.ranging.heads[k].last) :
    Within L s { t with ranging := r } :=
  { h with
    column := fun k hk => by
      obtain ⟨hsup, haccess, hold⟩ := h.column k hk
      exact ⟨hsup, haccess, (hlast k hk).trans hold⟩ }

/-- A head's record changed; its last distance is the column's. -/
theorem modHead_within {f : Head → Head} (hf : L (.column c) ∨ ∀ x, (f x).last = x.last)
    (h : Within L s t) : Within L s (t.modHead c f) :=
  h.engine fun k hk => by
    by_cases hkc : k = c
    · subst hkc
      rcases hf with hf | hf
      · exact absurd hf hk
      · exact (congrArg Head.last (Ranging.modHead_self _ t.ranging f)).trans (hf _)
    · exact congrArg Head.last (Ranging.modHead_other c t.ranging f hkc)

theorem reach_within (ht : L .time) (due : Nat) (h : Within L s t) : Within L s (reach due t) :=
  { h with time := fun hn => absurd ht hn }

theorem Within.cards (h : Within L s t) {x : CardTable} (hx : SameCards t.table x) :
    Within L s { t with table := x } :=
  { h with table := fun hn => (h.table hn).trans hx }

/-- The journal changed: records join it, and the read mark stays. -/
theorem Within.journal (h : Within L s t) {j : Journal} (hr : t.journal.records <+: j.records)
    (hm : j.readMark = t.journal.readMark) : Within L s { t with journal := j } :=
  { h with
    records := fun hn => (h.records hn).trans hr
    readMark := fun hn => hm.trans (h.readMark hn) }

/-- The round changed, its state and its id kept. -/
theorem Within.round (h : Within L s t) {r : Round} (hs : r.state = t.round.state)
    (hid : r.id = t.round.id) : Within L s { t with round := r } :=
  { h with roundState := fun hn => ⟨hs.trans (h.roundState hn).1, hid.trans (h.roundState hn).2⟩ }

/-- The reader line changed, its frame in reception kept. -/
theorem Within.reader (h : Within L s t) {r : ReaderLine}
    (hf : L .readerFrame ∨ r.frame = t.reader.frame) : Within L s { t with reader := r } :=
  { h with readerFrame := fun hn => (hf.resolve_left hn).trans (h.readerFrame hn) }

/-- The host link changed in what has no command of its own: the frame in reception, the request in hand. -/
theorem Within.link (h : Within L s t) {x : HostLink} (ht : x.transfer = t.host.transfer)
    (he : x.linkErrors = t.host.linkErrors) : Within L s { t with host := x } :=
  { h with
    transfer := fun hn => ht.trans (h.transfer hn)
    linkErrors := fun hn => he.trans (h.linkErrors hn) }

/-- A transfer context opened, moved on or closed, and the staging block with it (R164). -/
theorem Within.staging (h : Within L s t) (ht : L .transfer) {x : Option Transfer} {l : List RawEntry} :
    Within L s { t with
      host := { t.host with transfer := x }, table := { t.table with staged := l } } :=
  { h with
    transfer := fun hn => absurd ht hn
    table := fun hn => (h.table hn).trans ⟨rfl, fun _ => ⟨rfl, rfl⟩⟩ }

/-! ### Alerts and records (R141, R151, R152) -/

/-- A raising keeps the floor. -/
theorem raise_floor (kind : AlertKind) (column : Option Column) (time : Reading) (a : AlertList) :
    (a.raise kind column time).floor = a.floor := by
  simp only [AlertList.raise]
  repeat' split
  all_goals rfl

/-- A raising keeps the count of dropped alerts or raises it, up to 255. -/
theorem raise_dropped (kind : AlertKind) (column : Option Column) (time : Reading) {a : AlertList}
    (h : a.dropped ≤ 255) :
    a.dropped ≤ (a.raise kind column time).dropped ∧ (a.raise kind column time).dropped ≤ 255 := by
  have grows : a.dropped ≤ min 255 (a.dropped + 1) ∧ min 255 (a.dropped + 1) ≤ 255 := by omega
  simp only [AlertList.raise]
  split
  · exact ⟨le_rfl, h⟩
  · split
    · exact ⟨le_rfl, h⟩
    · split
      · exact ⟨le_rfl, h⟩
      · exact grows

theorem raiseAlert_within (kind : AlertKind) (column : Option Column) (h : Within L s t) :
    Within L s (raiseAlert kind column t) :=
  { h with
    floor := fun hn => (raise_floor ..).trans (h.floor hn)
    dropped := fun hn hs => by
      obtain ⟨hle, hmax⟩ := h.dropped hn hs
      obtain ⟨hle', hmax'⟩ := raise_dropped kind column t.clock.reading hmax
      exact ⟨hle.trans hle', hmax'⟩ }

theorem raiseIf_within (kind : Option AlertKind) (column : Option Column) (h : Within L s t) :
    Within L s (raiseIf kind column t) := by
  cases kind with
  | none => exact h
  | some k => exact raiseAlert_within k column h

theorem reserve_within (n : Nat) (h : Within L s t) : Within L s (reserve n t) :=
  h.journal (List.prefix_refl _) rfl

theorem releaseReservation_within (h : Within L s t) : Within L s (releaseReservation t) :=
  h.journal (List.prefix_refl _) rfl

theorem appendRecord_within (column : Column) (flags : RecordFlags) (period : BitVec 16)
    (body : RecordBody) (h : Within L s t) : Within L s (appendRecord column flags period body t) := by
  have joined (high : Bool) : Within L s
      { t with journal := t.journal.append (stampRecord column flags period body t) high } :=
    h.journal (List.prefix_append ..) rfl
  simp only [appendRecord]
  split
  · exact raiseAlert_within _ _ (joined _)
  · exact joined _

end

end Sys2Proof.Proofs.Footprints
end

section
/-! Proofs, FootprintOperations: each operation of a block stays within the parts that it names (01, 04, 05, 06, 09). -/

namespace Sys2Proof.Proofs.Footprints

open Sys2Proof Sys2Proof.Machine

variable {L : Part → Prop} {s t : State} {c : Column}

/-! ### The ranging engine (R89 to R95, R106): only the last distances have a part -/

theorem enqueue_within (c : Column) (h : Within L s t) : Within L s (enqueue c t) :=
  h.engine fun _ _ => by simp only [Ranging.enqueue]; split <;> rfl

theorem frontRequest_within (c : Column) (h : Within L s t) : Within L s (frontRequest c t) :=
  h.engine fun _ _ => rfl

theorem advancePointer_within (h : Within L s t) : Within L s (advancePointer t) := by
  unfold advancePointer
  split <;> exact h.engine fun _ _ => rfl

theorem startBurst_within (c : Column) (p : Purpose) (h : Within L s t) :
    Within L s (startBurst c p t) := h.engine fun _ _ => rfl

theorem endBurst_within (h : Within L s t) : Within L s (endBurst t) := by
  unfold endBurst
  split
  · exact h
  · have freed : Within L s { t with ranging := { t.ranging with burst := none } } :=
      h.engine fun _ _ => rfl
    dsimp only
    split
    · exact advancePointer_within freed
    · exact freed

theorem abandonBurst_within (c : Column) (h : Within L s t) : Within L s (abandonBurst c t) := by
  unfold abandonBurst
  split
  · exact h
  · split
    · split
      · exact frontRequest_within c (endBurst_within h)
      · exact enqueue_within c (endBurst_within h)
    · exact h

theorem dropColumn_within (c : Column) (h : Within L s t) : Within L s (dropColumn c t) := by
  have erased {u : State} (hu : Within L s u) : Within L s
      { u with ranging := { u.ranging with queue := u.ranging.queue.erase c } } :=
    hu.engine fun _ _ => rfl
  unfold dropColumn
  split
  · exact erased h
  · split
    · exact erased (endBurst_within h)
    · exact erased h

theorem scanWalk_within (n : Nat) (h : Within L s t) : Within L s (scanWalk n t) := by
  induction n generalizing t with
  | zero => exact h
  | succ n ih =>
    have skipped {f : Head → Head} (hf : ∀ x, (f x).last = x.last) :
        Within L s (t.modHead t.ranging.pointer f) := modHead_within (.inr hf) h
    have stepped {u : State} (hu : Within L s u) : Within L s
        (if (advancePointer u).ranging.pause.isSome then advancePointer u
          else scanWalk n (advancePointer u)) := by
      split
      · exact advancePointer_within hu
      · exact ih (advancePointer_within hu)
    simp only [scanWalk]
    split
    · exact startBurst_within _ _ (skipped fun _ => rfl)
    · split
      · exact stepped (skipped fun _ => rfl)
      · exact stepped h

theorem chooseNext_within (h : Within L s t) : Within L s (chooseNext t) := by
  unfold chooseNext
  split
  · exact h
  · split
    · refine startBurst_within _ _ ?_
      exact h.engine fun _ _ => rfl
    · split
      · exact h
      · exact scanWalk_within 12 h

/-! ### The fill tracker (R97 to R104) -/

theorem recomputeBand_within (hf : L (.fill c)) (h : Within L s t) : Within L s (recomputeBand c t) :=
  raiseIf_within _ _ (modFill_within hf _ h)

theorem trackSuccess_within (hf : L (.fill c)) (mm : Nat) (h : Within L s t) :
    Within L s (trackSuccess c mm t) := by
  have tracked := recomputeBand_within hf (modFill_within hf
    (fun f => { f with estimate := fillOf c mm t, since := 0, doubtful := false }) h)
  simp only [trackSuccess, raiseOverfill]
  split
  · exact raiseAlert_within _ _ tracked
  · exact tracked

theorem countFailure_within (hf : L (.fill c)) (h : Within L s t) : Within L s (countFailure c t) := by
  have counted {f : Head → Head} (g : Fill → Fill) (hlast : ∀ x, (f x).last = x.last) :
      Within L s ((t.modHead c f).modFill c g) := modFill_within hf g (modHead_within (.inr hlast) h)
  simp only [countFailure]
  split
  · exact raiseAlert_within _ _ (counted _ fun _ => rfl)
  · exact counted _ fun _ => rfl

theorem trackEmptied_within (hf : L (.fill c)) (h : Within L s t) : Within L s (trackEmptied c t) :=
  recomputeBand_within hf (modFill_within hf _ h)

theorem trackDeposit_within (hf : L (.fill c)) (h : Within L s t) : Within L s (trackDeposit c t) := by
  have tracked := recomputeBand_within hf (modFill_within hf
    (fun f => { f with estimate := min 200 (f.estimate + t.profile.columns[c].increment),
                       since := min 255 (f.since + 1) }) h)
  simp only [trackDeposit]
  split
  · exact enqueue_within c tracked
  · exact tracked

/-! ### Faults, the latch and the permit (R2, R5 to R9, R12) -/

theorem takeFault_within (hc : L (.column c)) (r : Reason) (h : Within L s t) :
    Within L s (takeFault c r t) := by
  unfold takeFault
  split
  · exact h
  · exact raiseIf_within _ _ (modSup_within hc _ h)

theorem failLatch_within (hc : L (.column c)) (h : Within L s t) : Within L s (failLatch c t) :=
  takeFault_within hc _ (modSup_within hc _ h)

theorem releaseRequest_within (hc : L (.column c)) (h : Within L s t) :
    Within L s (releaseRequest c t) := by
  unfold releaseRequest
  split
  · exact modSup_within hc _ h
  · exact failLatch_within hc h

theorem homeRequest_within (hc : L (.column c)) (h : Within L s t) : Within L s (homeRequest c t) := by
  unfold homeRequest
  split <;> exact modSup_within hc _ h

theorem withdrawPermit_within (hc : L (.column c)) (h : Within L s t) :
    Within L s (withdrawPermit c t) := modSup_within hc _ h

/-- A contact judged is the supervisor's (R7, R8, R9): its latch, or a fault. -/
theorem contactJudged_within (hc : L (.column c)) (h : Within L s t) :
    Within L s (contactJudged c t).1 := by
  have latched (f : Supervisor → Supervisor) (r : Option LatchReport) :
      Within L s (t.modSup c f, r).1 := modSup_within hc f h
  have faulted (f : Supervisor → Supervisor) : Within L s (takeFault c .latchFault (t.modSup c f)) :=
    takeFault_within hc _ (modSup_within hc f h)
  unfold contactJudged
  dsimp only
  split
  · split
    · exact h
    · exact faulted _
  · split
    · exact h
    · exact faulted _
  · split
    · exact latched _ _
    · split
      · exact latched _ _
      · split
        · exact takeFault_within hc _ h
        · exact h
  · split
    · exact failLatch_within hc h
    · split
      · exact latched _ _
      · split
        · exact latched _ _
        · exact h

theorem takeInput_within (ht : L .time) (hc : L (.column c)) (i : Input) (closed : Bool)
    (h : Within L s t) : Within L s (takeInput c i closed t) :=
  modSup_within hc _ (reach_within ht _ h)

/-! ### The reader line's verdicts (R167) -/

theorem startVerdict_within (h : Within L s t) : Within L s (startVerdict t) := by
  unfold startVerdict
  split
  · exact h
  · split
    · exact h
    · exact h.reader (.inr rfl)

theorem handVerdict_within (v : Verdict) (h : Within L s t) : Within L s (handVerdict v t) := by
  unfold handVerdict
  refine startVerdict_within ?_
  split
  · exact h.reader (.inr rfl)
  · exact h

theorem readerFrameEnds_within (hr : L .readerFrame) (h : Within L s t) :
    Within L s (readerFrameEnds t) := startVerdict_within (h.reader (.inl hr))

theorem sendVerdict_within (hc : L (.column c)) (v : VerdictCode) (m : Option Nat) (r : Option Column)
    (h : Within L s t) : Within L s (sendVerdict c v m r t) := by
  unfold sendVerdict
  split
  · exact handVerdict_within _ h
  · exact handVerdict_within _ h
  · exact handVerdict_within _ (modAccess_within hc _ h)

/-! ### A grant made and a grant that ends (R64, R70 to R75) -/

theorem arriveLocked_within (hc : L (.column c)) (h : Within L s t) : Within L s (arriveLocked c t) :=
  modAccess_within hc _ h

theorem goHoming_within (hc : L (.column c)) (h : Within L s t) : Within L s (goHoming c t) := by
  have homing := modAccess_within hc
    (fun a => { a with state := .homing, grantTimer := none, openTimer := none })
    (homeRequest_within hc h)
  simp only [goHoming]
  split
  · exact arriveLocked_within hc homing
  · exact homing

theorem undoGrant_within (c : Column) (h : Within L s t) : Within L s (undoGrant c t) := by
  unfold undoGrant
  split
  · exact h
  · refine releaseReservation_within ?_
    unfold refundGrant
    split
    · exact h
    · exact h.cards (sameCards_refund ..)

theorem cutGrant_within (hc : L (.column c)) (v : VerdictCode) (h : Within L s t) :
    Within L s (cutGrant c v t) :=
  goHoming_within hc (undoGrant_within c (sendVerdict_within hc v none none h))

theorem releaseFailed_within (hc : L (.column c)) (h : Within L s t) :
    Within L s (releaseFailed c t) :=
  modAccess_within hc _
    (arriveLocked_within hc (undoGrant_within c (sendVerdict_within hc .fault none none h)))

theorem leaveLocked_within (hc : L (.column c)) (st : AccessState) (h : Within L s t) :
    Within L s (leaveLocked c st t) := abandonBurst_within c (modAccess_within hc _ h)

/-- The release request of a grant, or its failure (R5, R70). -/
theorem releaseTried_within (hc : L (.column c)) (h : Within L s t) : Within L s
    (if releaseStarts c t then releaseRequest c t else releaseFailed c (releaseRequest c t)) := by
  split
  · exact releaseRequest_within hc h
  · exact releaseFailed_within hc (releaseRequest_within hc h)

theorem makeGrant_within (hc : L (.column c)) (card : CardNumber) (f : Found) (h : Within L s t) :
    Within L s (makeGrant c card f t) := by
  have charged : SameCards t.table
      (if f.host.cls = .crew then (t.table, none) else t.table.charge card t.period).1 := by
    split
    · exact .refl _
    · exact sameCards_charge card t.period
  exact releaseTried_within hc
    (leaveLocked_within hc _ (modAccess_within hc _ (reserve_within 1 (h.cards charged))))

theorem takePresent_within (hc : L (.column c)) (card : CardNumber) (h : Within L s t) :
    Within L s (takePresent c card t) := by
  unfold takePresent
  split
  · exact sendVerdict_within hc _ _ _ h
  · exact chooseNext_within (makeGrant_within hc card _ h)

/-- An opening under a grant ends: its record and its use, and a deposit at the tracker (R74, R75). -/
theorem settleOpened_within (hc : L (.column c)) {increment : Bool}
    (hf : increment = true → L (.fill c)) (g : GrantContext) (interrupted : Bool) (h : Within L s t) :
    Within L s (settleOpened c g interrupted increment t) := by
  have used {u : State} (hu : Within L s u) : Within L s (countUse g u) :=
    hu.cards (sameCards_useCount g.card)
  have deposited : Within L s (if increment then trackDeposit c t else t) := by
    split
    · exact trackDeposit_within (hf ‹_›) h
    · exact h
  unfold settleOpened
  split
  · exact used (appendRecord_within _ _ _ _ h)
  · exact modAccess_within hc _ (used (appendRecord_within _ _ _ _ deposited))

/-! ### Reports at the machine (R69, R70, R72 to R75, R77 to R82) -/

theorem sendGrantVerdict_within (hc : L (.column c)) (h : Within L s t) :
    Within L s (sendGrantVerdict c t) := by
  unfold sendGrantVerdict
  split
  · exact h
  · split <;> exact sendVerdict_within hc _ _ _ h

theorem accessReleased_within (hc : L (.column c)) (h : Within L s t) :
    Within L s (accessReleased c t) := by
  unfold accessReleased
  split
  · split
    · exact cutGrant_within hc _ h
    · exact modAccess_within hc _ (sendGrantVerdict_within hc h)
  all_goals exact h

theorem accessHome_within (hc : L (.column c)) (h : Within L s t) : Within L s (accessHome c t) := by
  unfold accessHome
  split
  · exact arriveLocked_within hc h
  all_goals exact h

theorem accessFailed_within (hc : L (.column c)) (h : Within L s t) :
    Within L s (accessFailed c t) := by
  unfold accessFailed
  split
  · exact releaseFailed_within hc h
  · exact arriveLocked_within hc h
  all_goals exact h

theorem accessReport_within (hc : L (.column c)) (r : Option LatchReport) (h : Within L s t) :
    Within L s (accessReport c r t) := by
  rcases r with _ | _ | _ | _
  · exact h
  · exact accessReleased_within hc h
  · exact accessHome_within hc h
  · exact accessFailed_within hc h

theorem openUnderGrant_within (hc : L (.column c)) (h : Within L s t) :
    Within L s (openUnderGrant c t) := by
  simp only [openUnderGrant]
  exact modAccess_within hc _ h

theorem accessOpened_within (hc : L (.column c)) (h : Within L s t) :
    Within L s (accessOpened c t) := by
  unfold accessOpened
  split
  · refine abandonBurst_within c (modAccess_within hc _ ?_)
    split
    · exact h
    · exact takeFault_within hc _ h
  · exact openUnderGrant_within hc (sendGrantVerdict_within hc h)
  · exact openUnderGrant_within hc h
  · exact modAccess_within hc _ (takeFault_within hc _ h)
  · exact h

theorem accessClosed_within (hc : L (.column c)) (hf : L (.fill c)) (h : Within L s t) :
    Within L s (accessClosed c t) := by
  unfold accessClosed
  split
  · split
    · exact goHoming_within hc h
    · exact goHoming_within hc (settleOpened_within hc (fun _ => hf) _ _ h)
  all_goals exact h

theorem drainRequest_within (hc : L (.column c)) (h : Within L s t) :
    Within L s (drainRequest c t) := by
  have marked := modAccess_within hc (fun a => { a with drainMark := true }) h
  simp only [drainRequest]
  split
  · exact modAccess_within hc _ marked
  · exact cutGrant_within hc _ marked
  all_goals exact marked

theorem endDrain_within (hc : L (.column c)) (h : Within L s t) : Within L s (endDrain c t) := by
  unfold endDrain
  split
  · exact modAccess_within hc _ h
  · exact h

theorem accessLifted_within (hc : L (.column c)) (h : Within L s t) :
    Within L s (accessLifted c t) := by
  unfold accessLifted
  split
  · exact h
  · exact h
  · exact cutGrant_within hc _ h
  · exact cutGrant_within hc _ h
  · split
    · exact goHoming_within hc h
    · exact goHoming_within hc (modAccess_within hc _ (settleOpened_within (increment := false) hc nofun _ _ h))

/-! ### Entries that become DONE (R111, R114, R128) -/

theorem reloadSupervision_within (h : Within L s t) : Within L s (reloadSupervision t) :=
  h.round rfl rfl

theorem setStage_within (st : Stage) (h : Within L s t) : Within L s (setStage st t) := h.round rfl rfl

theorem finishEntry_within (c : Column) (o : EntryOutcome) (f : Option FailReason) (after : Option Nat)
    (residue : Bool) (h : Within L s t) : Within L s (finishEntry c o f after residue t) := by
  unfold finishEntry
  split
  · exact h
  · refine appendRecord_within _ _ _ _ (h.round ?_ ?_) <;> split <;> rfl

theorem failEntry_within (c : Column) (fail : FailReason) (h : Within L s t) :
    Within L s (failEntry c fail t) := reloadSupervision_within (finishEntry_within c _ _ _ _ h)

/-- What every item of a list stays within, the list stays within. -/
theorem foldl_within {α : Type} {f : State → α → State}
    (hf : ∀ {u : State} (a : α), Within L s u → Within L s (f u a)) (l : List α)
    (h : Within L s t) : Within L s (l.foldl f t) := by
  induction l generalizing t with
  | nil => exact h
  | cons a l ih => exact ih (hf a h)

theorem finishAll_within (o : EntryOutcome) (cs : List Column) (h : Within L s t) :
    Within L s (finishAll o cs t) :=
  foldl_within (fun c => finishEntry_within c o none none false) cs h

/-- The round leaves OPEN (R115, R130, R132). -/
theorem leaveOpen_within (hr : L .roundState) (st : RoundState) (h : Within L s t) :
    Within L s (leaveOpen st t) := { h with roundState := fun hn => absurd hr hn }

/-! ### Reports to the round controller (R119 to R126) -/

theorem roundLocked_within (hc : L (.column c)) (h : Within L s t) : Within L s (roundLocked c t) := by
  unfold roundLocked
  split
  · split
    · exact setStage_within _ (modSup_within hc _ h)
    · exact failEntry_within c _ (takeFault_within hc _ h)
  · exact h

theorem deliverLocked_within (hc : L (.column c)) (h : Within L s t) :
    Within L s (deliverLocked c t) := by
  unfold deliverLocked
  split
  · exact roundLocked_within hc (modAccess_within hc _ h)
  · exact h

theorem roundOpened_within (hc : L (.column c)) (h : Within L s t) : Within L s (roundOpened c t) := by
  unfold roundOpened
  split
  · exact failEntry_within c _ (withdrawPermit_within hc h)
  · exact h

theorem roundLiftOut_within (c : Column) (h : Within L s t) : Within L s (roundLiftOut c t) := by
  unfold roundLiftOut
  split
  · exact (setStage_within .lifted h).round rfl rfl
  · exact h

theorem roundLiftIn_within (hc : L (.column c)) (h : Within L s t) : Within L s (roundLiftIn c t) := by
  unfold roundLiftIn
  split
  · have back : Within L s { t with round := { t.round with liftStart := none } } := h.round rfl rfl
    dsimp only
    split
    · exact setStage_within .permitted back
    · exact (setStage_within .settling (withdrawPermit_within hc back)).round rfl rfl
  · exact h

theorem roundLifted_within (hc : L (.column c)) (h : Within L s t) : Within L s (roundLifted c t) := by
  have failed := failEntry_within c .unauthorisedLift h
  unfold roundLifted
  split
  · dsimp only
    split
    · exact endDrain_within hc failed
    · exact failed
  · exact h

theorem roundMeasured_within (c : Column) (fill : Option Nat) (h : Within L s t) :
    Within L s (roundMeasured c fill t) := by
  unfold roundMeasured
  split
  · exact reloadSupervision_within (finishEntry_within c _ _ _ _ h)
  · exact h

/-! ### The hatch, the lift and the latch (R4, R7 to R11) -/

theorem reportOpened_within (hc : L (.column c)) (h : Within L s t) :
    Within L s (reportOpened c t) := by
  refine deliverLocked_within hc
    (abandonBurst_within c (roundOpened_within hc (accessOpened_within hc ?_)))
  split
  · exact takeFault_within hc _ h
  · exact h

theorem reportClosed_within (hc : L (.column c)) (hf : L (.fill c)) (h : Within L s t) :
    Within L s (reportClosed c t) := deliverLocked_within hc (accessClosed_within hc hf h)

theorem rereadHatch_within (hc : L (.column c)) (h : Within L s t) : Within L s (rereadHatch c t) := by
  have read := modSup_within hc Supervisor.readHatch h
  simp only [rereadHatch]
  split
  · exact reportOpened_within hc read
  · exact read

theorem takeHatch_within (ht : L .time) (hc : L (.column c)) (closed : Bool) (h : Within L s t) :
    Within L s (takeHatch c closed t) := by
  have taken := takeInput_within ht hc .hatch closed h
  simp only [takeHatch]
  split
  · exact taken
  · exact modSup_within hc _ taken

theorem reportLift_within (hc : L (.column c)) (h : Within L s t) : Within L s (reportLift c t) :=
  deliverLocked_within hc
    (abandonBurst_within c (roundLifted_within hc (accessLifted_within hc h)))

theorem markAbsent_within (hc : L (.column c)) (h : Within L s t) : Within L s (markAbsent c t) :=
  raiseAlert_within _ _ (modSup_within hc _ h)

theorem liftTaken_within (ht : L .time) (hc : L (.column c)) (h : Within L s t) :
    Within L s (liftTaken c t) := by
  have taken := modSup_within hc Supervisor.ignoreHatch (takeInput_within ht hc .lift false h)
  simp only [liftTaken]
  split
  · exact taken
  · split
    · exact chooseNext_within (abandonBurst_within c (roundLiftOut_within c taken))
    · exact chooseNext_within (reportLift_within hc (markAbsent_within hc taken))

theorem returnTaken_within (ht : L .time) (hc : L (.column c)) (h : Within L s t) :
    Within L s (returnTaken c t) := by
  have taken := takeInput_within ht hc .lift true h
  simp only [returnTaken]
  split
  · exact modSup_within hc _ taken
  · exact chooseNext_within (rereadHatch_within hc (enqueue_within c (modSup_within hc _ taken)))
  all_goals exact chooseNext_within (rereadHatch_within hc (roundLiftIn_within hc taken))

theorem contactTaken_within (hc : L (.column c)) (h : Within L s t) :
    Within L s (contactTaken c t) :=
  chooseNext_within (deliverLocked_within hc
    (accessReport_within hc _ (contactJudged_within hc h)))

/-! ### Requests and timers of the round (R115, R118, R129) -/

theorem claim_within (hc : L (.column c)) (h : Within L s t) : Within L s (claim c t) :=
  chooseNext_within (deliverLocked_within hc (drainRequest_within hc
    (abandonBurst_within c (reloadSupervision_within (h.round rfl rfl)))))

theorem skip_within (hc : L (.column c)) (h : Within L s t) : Within L s (skip c t) := by
  refine chooseNext_within (reloadSupervision_within (finishEntry_within c _ _ _ _ ?_))
  split
  · exact endDrain_within hc h
  · split
    · exact withdrawPermit_within hc h
    · exact h

theorem timeOutActive_within (hc : ∀ k, L (.column k)) (h : Within L s t) :
    Within L s (timeOutActive t) := by
  unfold timeOutActive
  split
  · exact h
  · rename_i e _
    have finished := finishEntry_within e.column .failed (some .timeout) none false h
    dsimp only
    split
    · exact endDrain_within (hc _) finished
    · split
      · exact withdrawPermit_within (hc _) finished
      · exact finished

theorem abortRound_within (hr : L .roundState) (hc : ∀ k, L (.column k)) (h : Within L s t) :
    Within L s (abortRound t) :=
  raiseAlert_within _ _ (leaveOpen_within hr _ (finishAll_within _ _ (timeOutActive_within hc h)))

/-! ### Ranging (R86 to R88) -/

theorem firePing_within (ht : L .time) (h : Within L s t) : Within L s (firePing t) := by
  unfold firePing
  split
  · exact h
  · rename_i b _
    split
    · exact (reach_within ht b.pingTime h).engine fun _ _ => rfl
    · exact h

theorem finishBurst_within (b : Burst) (hc : L (.column b.column)) (hf : L (.fill b.column))
    (h : Within L s t) : Within L s (finishBurst b t) := by
  refine chooseNext_within ?_
  split
  · have tracked (mm : Nat) := trackSuccess_within hf mm (modHead_within (.inl hc)
      (f := fun x => { x with
        failures := 0, last := some { mm := mm, time := (endBurst t).clock.reading } })
      (endBurst_within h))
    simp only [handSuccess]
    split
    · exact roundMeasured_within _ _ (tracked _)
    · exact tracked _
  all_goals
    have failed := countFailure_within hf (endBurst_within h)
    simp only [handFailure]
    split
    · exact roundMeasured_within _ _ (trackEmptied_within hf failed)
    · exact failed

theorem closeWindow_within (b : Burst) (r : PingResult) (hc : L (.column b.column))
    (hf : L (.fill b.column)) (h : Within L s t) : Within L s (closeWindow b r t) := by
  have closed (d : Burst) : Within L s { t with ranging := { t.ranging with burst := some d } } :=
    h.engine fun _ _ => rfl
  simp only [closeWindow]
  split
  · exact finishBurst_within _ hc hf (closed _)
  · exact closed _

/-! ### A profile write (R16, R105, R106, R171) -/

theorem disableColumn_within (hc : L (.column c)) (h : Within L s t) :
    Within L s (disableColumn c t) :=
  dropColumn_within c (modAccess_within hc _ (modSup_within hc _ h))

theorem enableColumn_within (hc : L (.column c)) (h : Within L s t) :
    Within L s (enableColumn c t) := by
  have reported {u : State} (hu : Within L s u) :
      Within L s (if u.sups[c].hatchOpen then reportOpened c u else u) := by
    split
    · exact reportOpened_within hc hu
    · exact hu
  have enabled := modSup_within hc Supervisor.enable h
  simp only [enableColumn]
  split
  · exact enabled
  · refine reported ?_
    split
    · exact enabled
    · exact takeFault_within hc _ enabled

theorem switchColumn_within (hc : ∀ k, L (.column k)) (before : Profile) (x : Setting)
    (h : Within L s t) : Within L s (switchColumn before t x) := by
  simp only [switchColumn]
  split
  · split
    · exact enableColumn_within (hc _) h
    · exact disableColumn_within (hc _) h
  · exact h

/-- What a write does once its settings are in the profile: the columns switched, the bands rejudged, the
engine's choice (R171). -/
theorem settingsTaken_within (hc : ∀ k, L (.column k)) (hf : ∀ k, L (.fill k)) (before : Profile)
    (xs : List Setting) (h : Within L s t) :
    Within L s (chooseNext (rejudgeBands before (xs.foldl (switchColumn before) t))) := by
  have switched := foldl_within (switchColumn_within hc before) xs h
  refine chooseNext_within ?_
  unfold rejudgeBands
  split
  · exact switched
  · exact foldl_within (fun c => recomputeBand_within (hf c)) allColumns switched

theorem applySettings_within (hp : L .profile) (hc : ∀ k, L (.column k)) (hf : ∀ k, L (.fill k))
    (xs : List Setting) (h : Within L s t) : Within L s (applySettings xs t) :=
  settingsTaken_within hc hf t.profile xs { h with profile := fun hn => absurd hp hn }

/-! ### The restarts (R18, R83, R84, R108, R132, R158, R173) -/

theorem restartSupervisor_within (hc : L (.column c)) (h : Within L s t) :
    Within L s (restartSupervisor t c) := by
  have withdrawn := withdrawPermit_within hc h
  simp only [restartSupervisor]
  split
  · exact withdrawn
  · exact homeRequest_within hc withdrawn

theorem settleGrant_within (hc : L (.column c)) (hf : L (.fill c)) (h : Within L s t) :
    Within L s (settleGrant t c) := by
  unfold settleGrant
  split
  · exact h
  · split
    · exact undoGrant_within c h
    · exact undoGrant_within c h
    · exact settleOpened_within hc (fun _ => hf) _ _ h
    all_goals exact h

theorem restartAccess_within (hc : L (.column c)) (h : Within L s t) :
    Within L s (restartAccess t c) := by
  simp only [restartAccess]
  split
  · exact modAccess_within hc _ h
  · exact abandonBurst_within c (modAccess_within hc _ h)

theorem withdrawActive_within (hc : ∀ k, L (.column k)) (h : Within L s t) :
    Within L s (withdrawActive t) := by
  unfold withdrawActive
  split
  · exact h
  · exact withdrawPermit_within (hc _) h

theorem restartRound_within (hr : L .roundState) (hc : ∀ k, L (.column k)) (h : Within L s t) :
    Within L s (restartRound t) := by
  unfold restartRound
  split
  · exact raiseAlert_within _ _
      (leaveOpen_within hr _ (finishAll_within _ _ (withdrawActive_within hc h)))
  · exact h

theorem restartEngine_within (h : Within L s t) : Within L s (restartEngine t) :=
  h.engine fun k _ => by simp [Ranging.restart]

/-- The parts that the blocks change as they take a restart. -/
structure Restarts (L : Part → Prop) : Prop where
  column : ∀ k, L (.column k)
  fill : ∀ k, L (.fill k)
  transfer : L .transfer
  roundState : L .roundState
  readerFrame : L .readerFrame
  dropped : L .dropped

theorem restartBlock_within (hL : Restarts L) {block : State → State} (hb : block ∈ restartBlocks)
    (h : Within L s t) : Within L s (block t) := by
  simp only [restartBlocks, List.mem_cons, List.not_mem_nil, or_false] at hb
  rcases hb with rfl | rfl | rfl | rfl | rfl | rfl | rfl
  · exact foldl_within (fun c => restartSupervisor_within (hL.column c)) allColumns h
  · exact foldl_within (fun c => restartAccess_within (hL.column c)) allColumns
      (foldl_within (fun c => settleGrant_within (hL.column c) (hL.fill c)) allColumns h)
  · exact h.staging hL.transfer
  · exact restartRound_within hL.roundState hL.column h
  · exact restartEngine_within h
  · exact h.reader (.inl hL.readerFrame)
  · exact { h with dropped := fun hn => absurd hL.dropped hn }

theorem endRestart_within (h : Within L s t) : Within L s (endRestart t) :=
  { h.link (x := { t.host with inHand := t.host.inHand.bind freeRestart }) rfl rfl with }

theorem softRestart_within (hL : Restarts L) (h : Within L s t) : Within L s (softRestart t) := by
  have blocks (l : List (State → State)) (hl : ∀ block ∈ l, block ∈ restartBlocks) {u : State}
      (hu : Within L s u) : Within L s (l.foldl (fun u block => block u) u) := by
    induction l generalizing u with
    | nil => exact hu
    | cons block l ih =>
      exact ih (fun b hb => hl b (List.mem_cons_of_mem _ hb))
        (restartBlock_within hL (hl block List.mem_cons_self) hu)
  exact endRestart_within (blocks restartBlocks (fun _ hb => hb) h)

theorem restartNext_within (hL : Restarts L) (h : Within L s t) : Within L s (restartNext t) := by
  have taken {block : State → State} {rest : List (State → State)}
      (hdrop : restartBlocks.drop t.restarted = block :: rest) : Within L s (block t) :=
    restartBlock_within hL (List.mem_of_mem_drop (hdrop ▸ List.mem_cons_self)) h
  unfold restartNext
  split
  · exact endRestart_within h
  · rename_i hdrop
    exact chooseNext_within (endRestart_within (taken hdrop))
  · rename_i block _ _ hdrop
    exact chooseNext_within { taken hdrop with }

end Sys2Proof.Proofs.Footprints
end

section
/-! Proofs, FootprintCommands: the parts that each command may change, and that every command completes within them (00_scope, 01 to 09; log 3, 4, 18, 25, 26). -/

namespace Sys2Proof.Proofs.Footprints

open Sys2Proof Sys2Proof.Machine

/-! ### The footprint of a command -/

/-- The column whose event a command is, if it is the event of one column. -/
def oneColumn : Instr → Option Column
  | .present k _ | .inputLevelChange k _ _ | .hatchOpened k | .hatchClosed k | .liftOut k
  | .liftIn k | .latchContactChange k _ _ | .latchTravelTimeout k | .grantTimerExpiry k
  | .openTimerExpiry k | .latchRestExpiry k => some k
  | _ => none

/-- The parts that a command may change, taken in a state `s`. -/
def mayChange (s : State) (i : Instr) : Part → Prop
  | .time | .readerFrame => i.isHostFrame = false
  | .clock => match i with
    | .timeSet _ | .clockAdvance | .fullReset => True
    | _ => False
  | .period => match i with
    | .periodSet _ | .fullReset => True
    | _ => False
  | .profile => match i with
    | .profileWrite _ | .fullReset => True
    | _ => False
  | .table => match i with
    | .tableData _ _ | .tableErase _ | .tablePin _ | .tableRelease _ | .cardModify _
    | .fullReset => True
    | _ => False
  | .records => match i with
    | .journalRelease _ | .fullReset => True
    | _ => False
  | .readMark => match i with
    | .journalRead _ | .journalRelease _ | .fullReset => True
    | _ => False
  | .floor => match i with
    | .alertFloor _ | .fullReset => True
    | _ => False
  | .dropped => match i with
    | .alertFetch _ | .softRestart | .fullReset => True
    | _ => False
  | .transfer => match i with
    | .tableWrite _ | .tableVerify _ | .tableData _ _ | .transferWatchExpiry | .softRestart
    | .fullReset => True
    | _ => False
  | .linkErrors => match i with
    | .checkError | .frameWhileRequestInHand | .frameDiscard .host _ | .interbyteGap .host
    | .fullReset => True
    | _ => i.isHostFrame = true ∧ s.host.inHand.isSome = true
  | .roundState => match i with
    | .roundOpen _ | .roundClose _ | .supervisionTimerExpiry | .softRestart | .fullReset => True
    | _ => False
  | .column k => ∀ c, oneColumn i = some c → k = c
  | .fill k => (match i with
    | .hatchClosed _ | .echo _ | .noEcho | .profileWrite _ | .softRestart | .fullReset => True
    | _ => False) ∧ ∀ c, oneColumn i = some c → k = c
  | .arriving => i = .fullReset

/-- A command of no one column may change every column. -/
theorem mayChange_columns {s : State} {i : Instr} (h : oneColumn i = none) (k : Column) :
    mayChange s i (.column k) := fun _ hc => nomatch h.symm.trans hc

/-- The event of a column may change the column. -/
theorem mayChange_column {s : State} {i : Instr} {c : Column} (h : oneColumn i = some c) :
    mayChange s i (.column c) := fun _ hc => Option.some.inj (h.symm.trans hc)

section
variable {L : Part → Prop} {s t u : State}

/-! ### A request (R162, R163) -/

theorem hostFrameEnds_within (h : Within L s t) : Within L s (hostFrameEnds t) := h.link rfl rfl

theorem putInHand_within (kind : Byte) (body : List Byte) (h : Within L s t) :
    Within L s (putInHand kind body t) := h.link rfl rfl

theorem countLinkError_within (hl : L .linkErrors) (h : Within L s t) :
    Within L s (countLinkError t) := { h with linkErrors := fun hn => absurd hl hn }

/-- An event stays within the parts of its effect: the choice due before it is the engine's. -/
theorem event_within {f : State → State} (h : event f s = .next t)
    (effect : ∀ u, u.host = s.host → Within L s u → Within L s (f u)) : Within L s t := by
  cases h
  refine effect s.ready (by simp) ?_
  unfold State.ready
  split
  · exact chooseNext_within (.refl s)
  · exact .refl s

/-- A request stays within the parts of its action; one taken while another is in hand is counted. -/
theorem request_within {kind : Byte} {act : State → State × List Byte}
    (h : event (serve kind act) s = .next t)
    (busy : s.host.inHand.isSome = true → L .linkErrors)
    (action : ∀ u, Within L s u → Within L s (act u).1) : Within L s t := by
  refine event_within h fun u hlink hu => ?_
  unfold serve
  split
  · rename_i hinHand
    exact countLinkError_within (busy (hlink ▸ hinHand)) (hostFrameEnds_within hu)
  · exact putInHand_within _ _ (action _ (hostFrameEnds_within hu))

section
variable {body : List Byte}

theorem withNoBody_within {act : State → State × List Byte} (h : Within L s u)
    (hact : Within L s (act u).1) : Within L s (withNoBody body act u).1 := by
  unfold withNoBody
  split
  · exact hact
  · exact h

theorem withByte_within {act : Byte → State → State × List Byte} (h : Within L s u)
    (hact : ∀ b, Within L s (act b u).1) : Within L s (withByte body act u).1 := by
  unfold withByte
  split
  · exact hact _
  · exact h

theorem withTwoBytes_within {act : Byte → Byte → State → State × List Byte} (h : Within L s u)
    (hact : ∀ a b, Within L s (act a b u).1) : Within L s (withTwoBytes body act u).1 := by
  unfold withTwoBytes
  split
  · exact hact _ _
  · exact h

theorem withColumn_within {act : Column → State → State × List Byte} (h : Within L s u)
    (hact : ∀ c, Within L s (act c u).1) : Within L s (withColumn body act u).1 :=
  withByte_within h fun _ => by
    split
    · exact h
    · exact hact _

theorem unlessTransfer_within {act : State → State × List Byte} (h : Within L s u)
    (hact : Within L s (act u).1) : Within L s (unlessTransfer act u).1 := by
  unfold unlessTransfer
  split
  · exact h
  · exact hact

/-! ### The part's own requests, the clock and the profile (03, 09 9.6, 9.7) -/

theorem timeSet_within (hclock : L .clock) (h : Within L s u) : Within L s (timeSet body u).1 := by
  unfold timeSet
  split
  · dsimp only
    split
    · exact h
    · exact { h with clock := fun hn => absurd hclock hn }
  · exact h

theorem periodSet_within (hperiod : L .period) (h : Within L s u) :
    Within L s (periodSet body u).1 :=
  withTwoBytes_within h fun _ _ => { h with period := fun hn => absurd hperiod hn }

theorem profileWrite_within (hp : L .profile) (hc : ∀ k, L (.column k)) (hf : ∀ k, L (.fill k))
    (h : Within L s u) : Within L s (profileWrite body u).1 := by
  unfold profileWrite
  split
  · exact h
  · split
    · exact h
    · split
      · exact h
      · exact applySettings_within hp hc hf _ h

theorem profileRead_within (h : Within L s u) : Within L s (profileRead body u).1 :=
  withByte_within h fun _ => by
    split
    · exact h
    · split <;> exact h

/-! ### Alerts (08) -/

theorem alertFetch_within (hd : L .dropped) (h : Within L s u) : Within L s (alertFetch body u).1 :=
  withByte_within h fun _ => by
    split
    · exact h
    · exact { h with dropped := fun hn => absurd hd hn }

theorem alertFloor_within (hfloor : L .floor) (h : Within L s u) :
    Within L s (alertFloor body u).1 :=
  withByte_within h fun _ => by
    split
    · exact h
    · exact { h with floor := fun hn => absurd hfloor hn }

/-! ### The card table (02) -/

theorem transferRequest_within (ht : L .transfer) (kind : TransferKind) (h : Within L s u) :
    Within L s (transferRequest kind body u).1 :=
  withTwoBytes_within h fun _ _ => unlessTransfer_within h <| by
    split
    · exact h
    · split
      · exact h
      · exact h.staging ht

/-- The card table written by a command that has it as a part. -/
theorem Within.written (h : Within L s t) (ht : L .table) {x : CardTable} :
    Within L s { t with table := x } := { h with table := fun hn => absurd ht hn }

theorem tableData_within (ht : L .transfer) (htable : L .table) (more : Bool) (h : Within L s u) :
    Within L s (tableData more body u).1 := by
  have staged (x : Transfer) : Within L s (stage x (parseEntries body) u).1 := h.written htable
  have committed {v : State} (x : Transfer) (hv : Within L s v) : Within L s (finalWrite x v).1 := by
    unfold finalWrite
    split
    · exact hv
    · exact hv.written htable
  have compared {v : State} (x : Transfer) (hv : Within L s v) : Within L s (finalVerify x v).1 := by
    unfold finalVerify
    split <;> exact hv
  unfold tableData
  split
  · exact h
  · split
    · exact h
    · dsimp only
      split
      · exact { staged _ with transfer := fun hn => absurd ht hn }
      · refine Within.staging ?_ ht
        split
        · exact committed _ (staged _)
        · exact compared _ (staged _)

theorem tableErase_within (ht : L .table) (h : Within L s u) : Within L s (tableErase body u).1 :=
  withTwoBytes_within h fun _ _ => unlessTransfer_within h <| by
    split
    · exact h
    · split
      · exact h
      · exact h.written ht

theorem tableSum_within (h : Within L s u) : Within L s (tableSum body u).1 :=
  withTwoBytes_within h fun _ _ => by split <;> exact h

theorem tablePin_within (ht : L .table) (h : Within L s u) : Within L s (tablePin body u).1 :=
  withTwoBytes_within h fun _ _ => unlessTransfer_within h <| by
    split
    · exact h
    · exact h.written ht

theorem tableRelease_within (ht : L .table) (h : Within L s u) :
    Within L s (tableRelease body u).1 :=
  withNoBody_within h <| unlessTransfer_within h <| by
    split
    · exact h
    · split
      · exact h
      · exact h.written ht

theorem cardQuery_within (h : Within L s u) : Within L s (cardQuery body u).1 := by
  unfold cardQuery
  split
  · dsimp only
    split
    · exact h
    · split <;> exact h
  · exact h

theorem cardModify_within (ht : L .table) (h : Within L s u) : Within L s (cardModify body u).1 := by
  unfold cardModify
  split
  · dsimp only
    split
    · exact h
    · split
      · exact h
      · split
        · exact h
        · exact h.written ht
  · exact h

/-! ### Columns, rounds and the journal (01, 06, 07) -/

theorem columnService_within (hc : ∀ k, L (.column k)) (h : Within L s u) :
    Within L s (columnService body u).1 :=
  withColumn_within h fun c => by
    split
    · exact h
    · split
      · exact h
      · exact chooseNext_within (enqueue_within c (modSup_within (hc c) _ h))

theorem columnWithdraw_within (hc : ∀ k, L (.column k)) (h : Within L s u) :
    Within L s (columnWithdraw body u).1 :=
  withColumn_within h fun c => by
    split
    · exact h
    · exact modSup_within (hc c) _ h

theorem columnMeasure_within (h : Within L s u) : Within L s (columnMeasure body u).1 :=
  withColumn_within h fun c => by
    split
    · exact h
    · exact chooseNext_within (enqueue_within c h)

theorem roundOpen_within (hr : L .roundState) (h : Within L s u) :
    Within L s (roundOpen body u).1 := by
  unfold roundOpen
  split
  · split
    · exact h
    · split
      · exact h
      · split
        · exact h
        · split
          · exact h
          · exact reserve_within _ { h with roundState := fun hn => absurd hr hn }
  · exact h

theorem roundClaim_within (hc : ∀ k, L (.column k)) (h : Within L s u) :
    Within L s (roundClaim body u).1 :=
  withColumn_within h fun c => by
    split
    · exact h
    · exact claim_within (hc c) h

theorem roundSkip_within (hc : ∀ k, L (.column k)) (h : Within L s u) :
    Within L s (roundSkip body u).1 :=
  withColumn_within h fun c => by
    split
    · exact h
    · exact skip_within (hc c) h

theorem roundKeep_within (h : Within L s u) : Within L s (roundKeep body u).1 :=
  withNoBody_within h <| by
    split
    · exact h
    · exact reloadSupervision_within h

theorem roundClose_within (hr : L .roundState) (h : Within L s u) :
    Within L s (roundClose body u).1 :=
  withNoBody_within h <| by
    split
    · exact h
    · split
      · exact h
      · exact raiseAlert_within _ _ (leaveOpen_within hr _ (finishAll_within _ _ h))

theorem journalRead_within (hm : L .readMark) (h : Within L s u) :
    Within L s (journalRead body u).1 :=
  withTwoBytes_within h fun _ _ => by
    split
    · exact h
    · exact { h with readMark := fun hn => absurd hm hn }

theorem journalRelease_within (hr : L .records) (hm : L .readMark) (h : Within L s u) :
    Within L s (journalRelease body u).1 :=
  withTwoBytes_within h fun _ _ => by
    dsimp only
    split
    · exact h
    · exact { h with
        records := fun hn => absurd hr hn
        readMark := fun hn => absurd hm hn }

end

/-! ### The events of the lines and of the clock (03, 09) -/

theorem discardFrame_within {line : Line} (hl : line = .host → L .linkErrors) (hr : L .readerFrame)
    (h : Within L s u) : Within L s (discardFrame line u) := by
  cases line with
  | host =>
    simp only [discardFrame]
    split
    · exact countLinkError_within (hl rfl) (hostFrameEnds_within h)
    · exact h
  | reader =>
    simp only [discardFrame]
    split
    · exact readerFrameEnds_within hr h
    · exact h

theorem execInterbyteGap_within {line : Line} (ht : L .time) (hl : line = .host → L .linkErrors)
    (hr : L .readerFrame) (h : execInterbyteGap line s = .next t) : Within L s t :=
  event_within h fun u _ hu => by
    split
    · exact hu
    · exact discardFrame_within hl hr (reach_within ht _ hu)

theorem execFrameWhileRequestInHand_within (hl : L .linkErrors)
    (h : execFrameWhileRequestInHand s = .next t) : Within L s t :=
  event_within h fun u _ hu => by
    split
    · exact countLinkError_within hl (hostFrameEnds_within hu)
    · exact hu

theorem execStartMark_within {line : Line} (hr : L .readerFrame)
    (h : execStartMark line s = .next t) : Within L s t :=
  event_within h fun u _ hu => by
    split
    · exact hu.link rfl rfl
    · split
      · exact hu
      · exact hu.reader (.inl hr)

theorem execReplySent_within (h : execReplySent s = .next t) : Within L s t :=
  event_within h fun _ _ hu => hu.link rfl rfl

theorem execTransferWatchExpiry_within (ht : L .time) (htransfer : L .transfer)
    (h : execTransferWatchExpiry s = .next t) : Within L s t :=
  event_within h fun u _ hu => by
    split
    · exact hu
    · exact raiseAlert_within _ _ ((reach_within ht _ hu).staging htransfer)

theorem execPresent_within {c : Column} {card : CardNumber} (hc : L (.column c)) (hr : L .readerFrame)
    (h : execPresent c card s = .next t) : Within L s t :=
  event_within h fun u _ hu => by
    split
    · exact hu
    · split
      · exact readerFrameEnds_within hr hu
      · exact takePresent_within hc card (readerFrameEnds_within hr hu)

theorem execReaderFrameRejected_within {cause : RejectCause} (hr : L .readerFrame)
    (h : execReaderFrameRejected cause s = .next t) : Within L s t :=
  event_within h fun u _ hu => by
    split
    · exact hu
    · exact readerFrameEnds_within hr hu

theorem execVerdictSent_within (h : execVerdictSent s = .next t) : Within L s t :=
  event_within h fun u _ hu => by
    split
    · exact startVerdict_within (hu.reader (.inr rfl))
    · exact hu

theorem execClockAdvance_within (ht : L .time) (hclock : L .clock)
    (h : execClockAdvance s = .next t) : Within L s t :=
  event_within h fun _ _ hu => { reach_within ht _ hu with clock := fun hn => absurd hclock hn }

/-! ### The events of one column (01, 04) -/

section
variable {c : Column}

theorem execInputLevelChange_within {i : Input} {closed : Bool} (hc : L (.column c))
    (h : execInputLevelChange c i closed s = .next t) : Within L s t :=
  event_within h fun _ _ hu => modSup_within hc _ hu

theorem execHatchOpened_within (ht : L .time) (hc : L (.column c))
    (h : execHatchOpened c s = .next t) : Within L s t :=
  event_within h fun u _ hu => by
    have taken := takeHatch_within ht hc false hu
    dsimp only
    split
    · split
      · exact chooseNext_within (reportOpened_within hc taken)
      · exact taken
    · exact hu

theorem execHatchClosed_within (ht : L .time) (hc : L (.column c)) (hf : L (.fill c))
    (h : execHatchClosed c s = .next t) : Within L s t :=
  event_within h fun u _ hu => by
    have taken := takeHatch_within ht hc true hu
    dsimp only
    split
    · exact hu
    · split
      · exact chooseNext_within (reportClosed_within hc hf taken)
      · exact taken

theorem execLiftOut_within (ht : L .time) (hc : L (.column c)) (h : execLiftOut c s = .next t) :
    Within L s t :=
  event_within h fun u _ hu => by
    split
    · exact hu
    · exact liftTaken_within ht hc hu

theorem execLiftIn_within (ht : L .time) (hc : L (.column c)) (h : execLiftIn c s = .next t) :
    Within L s t :=
  event_within h fun u _ hu => by
    split
    · exact returnTaken_within ht hc hu
    · exact hu

theorem execLatchContactChange_within {k : Contact} {made : Bool} (ht : L .time)
    (hc : L (.column c)) (h : execLatchContactChange c k made s = .next t) : Within L s t :=
  event_within h fun u _ hu => by
    have taken := takeInput_within ht hc (.contact k) made hu
    dsimp only
    split
    · exact hu
    · split
      · exact modSup_within hc _ taken
      · exact contactTaken_within hc taken

theorem execLatchTravelTimeout_within (ht : L .time) (hc : L (.column c))
    (h : execLatchTravelTimeout c s = .next t) : Within L s t :=
  event_within h fun u _ hu => by
    split
    · exact hu
    · exact chooseNext_within (deliverLocked_within hc (accessFailed_within hc
        (failLatch_within hc (reach_within ht _ hu))))

theorem execGrantTimerExpiry_within (ht : L .time) (hc : L (.column c))
    (h : execGrantTimerExpiry c s = .next t) : Within L s t :=
  event_within h fun u _ hu => by
    split
    · exact hu
    · split
      · exact chooseNext_within (deliverLocked_within hc
          (cutGrant_within hc _ (reach_within ht _ hu)))
      · exact hu

theorem execOpenTimerExpiry_within (ht : L .time) (hc : L (.column c))
    (h : execOpenTimerExpiry c s = .next t) : Within L s t :=
  event_within h fun u _ hu => by
    split
    · exact hu
    · split
      · exact takeFault_within hc _ (modAccess_within hc _ (reach_within ht _ hu))
      · exact hu

theorem execLatchRestExpiry_within (ht : L .time) (hc : L (.column c))
    (h : execLatchRestExpiry c s = .next t) : Within L s t :=
  event_within h fun u _ hu => by
    split
    · exact hu
    · rename_i due _
      have stopped := modAccess_within hc (fun a => { a with rest := none }) (reach_within ht due hu)
      dsimp only
      split
      · exact homeRequest_within hc stopped
      · exact stopped

end

/-! ### The events of ranging and of the round (05, 06) -/

theorem execEcho_within {counter : Nat} (ht : L .time) (hc : ∀ k, L (.column k))
    (hf : ∀ k, L (.fill k)) (h : execEcho counter s = .next t) : Within L s t :=
  event_within h fun u _ hu => by
    split
    · exact hu
    · split
      · exact hu
      · rename_i opened _
        have heard := reach_within ht (counterTime opened counter) hu
        split
        · exact hu
        · dsimp only
          split
          · exact heard
          · exact closeWindow_within _ _ (hc _) (hf _) heard

theorem execNoEcho_within (ht : L .time) (hc : ∀ k, L (.column k)) (hf : ∀ k, L (.fill k))
    (h : execNoEcho s = .next t) : Within L s t :=
  event_within h fun u _ hu => by
    split
    · exact hu
    · split
      · exact hu
      · exact closeWindow_within _ _ (hc _) (hf _) (reach_within ht _ hu)

theorem execScanPauseExpiry_within (ht : L .time) (h : execScanPauseExpiry s = .next t) :
    Within L s t :=
  event_within h fun u _ hu => by
    split
    · exact hu
    · exact chooseNext_within ((reach_within ht _ hu).engine fun _ _ => rfl)

theorem execSupervisionTimerExpiry_within (ht : L .time) (hr : L .roundState)
    (hc : ∀ k, L (.column k)) (h : execSupervisionTimerExpiry s = .next t) : Within L s t :=
  event_within h fun u _ hu => by
    split
    · exact hu
    · split
      · exact chooseNext_within (abortRound_within hr hc (reach_within ht _ hu))
      · exact hu

theorem execSettleTimerExpiry_within (ht : L .time) (h : execSettleTimerExpiry s = .next t) :
    Within L s t :=
  event_within h fun u _ hu => by
    split
    · exact hu
    · rename_i due _
      have stopped : Within L s
          { reach due u with round := { (reach due u).round with settleTimer := none } } :=
        (reach_within ht due hu).round rfl rfl
      dsimp only
      split
      · exact stopped
      · split
        · exact chooseNext_within (frontRequest_within _ (setStage_within .measuring stopped))
        · exact stopped

end

/-! ### The resets (R173, R174) -/

theorem mayChange_softRestart (s : State) : Restarts (mayChange s .softRestart) where
  column := mayChange_columns rfl
  fill _ := ⟨trivial, nofun⟩
  transfer := trivial
  roundState := trivial
  readerFrame := rfl
  dropped := trivial

/-- A full reset may change every part. -/
theorem mayChange_fullReset (s : State) (p : Part) : mayChange s .fullReset p := by
  cases p with
  | time | readerFrame | arriving => rfl
  | column k => exact mayChange_columns rfl k
  | fill k => exact ⟨trivial, nofun⟩
  | _ => trivial

/-- The queue and the draws stay over a full reset (log 26). -/
theorem fullReset_within (s : State) : Within (mayChange s .fullReset) s (fullReset s) := by
  have all {q : Prop} (p : Part) (hn : ¬mayChange s .fullReset p) : q :=
    absurd (mayChange_fullReset s p) hn
  exact {
    pending := rfl, draws := rfl, arriving := all _, time := all _, clock := all _, period := all _,
    profile := all _, table := all _, records := all _, readMark := all _, floor := all _,
    dropped := all _, transfer := all _, linkErrors := all _, readerFrame := all _,
    roundState := all _, column := fun _ => all _, fill := fun _ => all _ }

/-! ### Every command -/

/-- Every command stays within its footprint. -/
theorem exec_within (i : Instr) {s t : State} (h : exec i s = .next t) :
    Within (mayChange s i) s t := by
  have counted {j : Instr} (hj : j.isHostFrame = true) (hb : s.host.inHand.isSome = true) :
    j.isHostFrame = true ∧ s.host.inHand.isSome = true := ⟨hj, hb⟩
  cases i with
  | identify body => exact request_within h (counted rfl) fun u hu => withNoBody_within hu hu
  | status body => exact request_within h (counted rfl) fun u hu => withNoBody_within hu hu
  | restart body => exact request_within h (counted rfl) fun u hu => withNoBody_within hu hu
  | softRestart => exact event_within h fun u _ hu => softRestart_within (mayChange_softRestart s) hu
  | timeSet body => exact request_within h (counted rfl) fun u hu => timeSet_within trivial hu
  | periodSet body => exact request_within h (counted rfl) fun u hu => periodSet_within trivial hu
  | profileWrite body =>
    exact request_within h (counted rfl) fun u hu =>
      profileWrite_within trivial (mayChange_columns rfl) (fun _ => ⟨trivial, nofun⟩) hu
  | profileRead body => exact request_within h (counted rfl) fun u hu => profileRead_within hu
  | alertFetch body => exact request_within h (counted rfl) fun u hu => alertFetch_within trivial hu
  | alertFloor body => exact request_within h (counted rfl) fun u hu => alertFloor_within trivial hu
  | tableWrite body =>
    exact request_within h (counted rfl) fun u hu => transferRequest_within trivial .write hu
  | tableData more body =>
    exact request_within h (counted rfl) fun u hu => tableData_within trivial trivial more hu
  | tableVerify body =>
    exact request_within h (counted rfl) fun u hu => transferRequest_within trivial .verify hu
  | tableErase body => exact request_within h (counted rfl) fun u hu => tableErase_within trivial hu
  | tableSum body => exact request_within h (counted rfl) fun u hu => tableSum_within hu
  | tablePin body => exact request_within h (counted rfl) fun u hu => tablePin_within trivial hu
  | tableRelease body =>
    exact request_within h (counted rfl) fun u hu => tableRelease_within trivial hu
  | cardQuery body => exact request_within h (counted rfl) fun u hu => cardQuery_within hu
  | cardModify body => exact request_within h (counted rfl) fun u hu => cardModify_within trivial hu
  | columnRead body =>
    exact request_within h (counted rfl) fun u hu => withColumn_within hu fun _ => hu
  | columnService body =>
    exact request_within h (counted rfl) fun u hu => columnService_within (mayChange_columns rfl) hu
  | columnWithdraw body =>
    exact request_within h (counted rfl) fun u hu => columnWithdraw_within (mayChange_columns rfl) hu
  | columnMeasure body => exact request_within h (counted rfl) fun u hu => columnMeasure_within hu
  | roundOpen body => exact request_within h (counted rfl) fun u hu => roundOpen_within trivial hu
  | roundClaim body =>
    exact request_within h (counted rfl) fun u hu => roundClaim_within (mayChange_columns rfl) hu
  | roundSkip body =>
    exact request_within h (counted rfl) fun u hu => roundSkip_within (mayChange_columns rfl) hu
  | roundKeep body => exact request_within h (counted rfl) fun u hu => roundKeep_within hu
  | roundClose body => exact request_within h (counted rfl) fun u hu => roundClose_within trivial hu
  | roundRead body => exact request_within h (counted rfl) fun u hu => withNoBody_within hu hu
  | journalRead body => exact request_within h (counted rfl) fun u hu => journalRead_within trivial hu
  | journalRelease body =>
    exact request_within h (counted rfl) fun u hu => journalRelease_within trivial trivial hu
  | checkError =>
    exact request_within h (fun _ => trivial) fun u hu => countLinkError_within trivial hu
  | unknownKind kind => exact request_within h (counted rfl) fun u hu => hu
  | frameWhileRequestInHand => exact execFrameWhileRequestInHand_within trivial h
  | frameDiscard line cause =>
    exact event_within h fun u _ hu => discardFrame_within (fun e : line = .host => e ▸ trivial) rfl hu
  | interbyteGap line => exact execInterbyteGap_within rfl (fun e : line = .host => e ▸ trivial) rfl h
  | replySent => exact execReplySent_within h
  | transferWatchExpiry => exact execTransferWatchExpiry_within rfl trivial h
  | present c card => exact execPresent_within (mayChange_column rfl) rfl h
  | readerFrameRejected cause => exact execReaderFrameRejected_within (cause := cause) rfl h
  | verdictSent => exact execVerdictSent_within h
  | fullReset => cases h; exact fullReset_within s
  | clockAdvance => exact execClockAdvance_within rfl trivial h
  | inputLevelChange c i closed => exact execInputLevelChange_within (mayChange_column rfl) h
  | hatchOpened c => exact execHatchOpened_within rfl (mayChange_column rfl) h
  | hatchClosed c =>
    exact execHatchClosed_within rfl (mayChange_column rfl) ⟨trivial, mayChange_column (s := s) rfl⟩ h
  | liftOut c => exact execLiftOut_within rfl (mayChange_column rfl) h
  | liftIn c => exact execLiftIn_within rfl (mayChange_column rfl) h
  | latchContactChange c k made => exact execLatchContactChange_within rfl (mayChange_column rfl) h
  | latchTravelTimeout c => exact execLatchTravelTimeout_within rfl (mayChange_column rfl) h
  | grantTimerExpiry c => exact execGrantTimerExpiry_within rfl (mayChange_column rfl) h
  | openTimerExpiry c => exact execOpenTimerExpiry_within rfl (mayChange_column rfl) h
  | latchRestExpiry c => exact execLatchRestExpiry_within rfl (mayChange_column rfl) h
  | ping => exact event_within h fun u _ hu => firePing_within rfl hu
  | echo counter =>
    exact execEcho_within rfl (mayChange_columns rfl) (fun _ => ⟨trivial, nofun⟩) h
  | noEcho => exact execNoEcho_within rfl (mayChange_columns rfl) (fun _ => ⟨trivial, nofun⟩) h
  | scanPauseExpiry => exact execScanPauseExpiry_within rfl h
  | supervisionTimerExpiry =>
    exact execSupervisionTimerExpiry_within rfl trivial (mayChange_columns rfl) h
  | settleTimerExpiry => exact execSettleTimerExpiry_within rfl h
  | startMark line => exact execStartMark_within rfl h

/-- Every command answers a next state: it is an event, or the full reset. -/
theorem exec_completes (i : Instr) (s : State) : ∃ t, exec i s = .next t := by
  cases i <;> exact ⟨_, rfl⟩

/-- Settles O3: every command completes, and the queue, the draws and what the lines bring are in no
footprint but the full reset's, which takes no byte brought before its end. -/
theorem everyCommandCompletes : Obligations.EveryCommandCompletes := by
  intro c s
  obtain ⟨t, ht⟩ := exec_completes c s
  have within := exec_within c ht
  refine ⟨t, ht, within.pending, within.draws, ?_⟩
  split
  · rename_i hreset
    subst hreset
    cases ht
    rfl
  · rename_i hother
    exact within.arriving hother

/-- Settles O4: each clause is one part of the footprint, which holds that part for the commands that the
clause excepts. -/
theorem onlyTheirCommandsChangeThem : Obligations.OnlyTheirCommandsChangeThem := by
  intro c s t h
  have within := exec_within c h
  refine ⟨?clock, ?period, ?profile, ?frame, ?table, ?records, ?readMark, ?floor, ?dropped, ?transfer,
    ?linkErrors, ?round, ?fills, ?columns⟩
  case clock =>
    cases c with
    | timeSet | clockAdvance | fullReset => trivial
    | _ => exact within.clock id
  case period =>
    cases c with
    | periodSet | fullReset => trivial
    | _ => exact within.period id
  case profile =>
    cases c with
    | profileWrite | fullReset => trivial
    | _ => exact within.profile id
  case frame =>
    intro hframe
    have hn : ¬c.isHostFrame = false := by simp [hframe]
    exact ⟨within.time hn, within.readerFrame hn⟩
  case table =>
    cases c with
    | tableData | tableErase | tablePin | tableRelease | cardModify | fullReset => trivial
    | _ => exact ⟨(within.table id).provisional, (within.table id).blocks⟩
  case records =>
    cases c with
    | journalRelease | fullReset => trivial
    | _ => exact within.records id
  case readMark =>
    cases c with
    | journalRead | journalRelease | fullReset => trivial
    | _ => exact within.readMark id
  case floor =>
    cases c with
    | alertFloor | fullReset => trivial
    | _ => exact within.floor id
  case dropped =>
    cases c with
    | alertFetch | softRestart | fullReset => trivial
    | _ => exact fun hs => (within.dropped id hs).1
  case transfer =>
    cases c with
    | tableWrite | tableVerify | tableData | transferWatchExpiry | softRestart | fullReset => trivial
    | _ => exact within.transfer id
  case linkErrors =>
    have kept {p : Prop} (hp : mayChange s c .linkErrors → p) :
        p ∨ t.host.linkErrors = s.host.linkErrors :=
      or_iff_not_imp_left.mpr fun hn => within.linkErrors (hn ∘ hp)
    cases c with
    | checkError | frameWhileRequestInHand | fullReset => trivial
    | frameDiscard line | interbyteGap line =>
      cases line with
      | host => trivial
      | reader => exact kept id
    | _ => exact kept id
  case round =>
    cases c with
    | roundOpen | roundClose | supervisionTimerExpiry | softRestart | fullReset => trivial
    | _ => exact within.roundState id
  case fills =>
    have same (hn : ∀ k, ¬mayChange s c (.fill k)) : t.fills = s.fills :=
      Vector.ext fun i hi => within.fill ⟨i, hi⟩ (hn _)
    cases c with
    | hatchClosed | echo | noEcho | profileWrite | softRestart | fullReset => trivial
    | _ => exact same fun _ hf => hf.1
  case columns =>
    have others {k : Column} (hk : oneColumn c = some k) (j : Column) (hne : j ≠ k) :
        t.sups[j] = s.sups[j] ∧ t.access[j] = s.access[j] ∧ t.fills[j] = s.fills[j] ∧
          t.ranging.heads[j].last = s.ranging.heads[j].last := by
      obtain ⟨hsup, haccess, hlast⟩ := within.column j fun hc => hne (hc k hk)
      exact ⟨hsup, haccess, within.fill j fun hf => hne (hf.2 k hk), hlast⟩
    cases c with
    | present | inputLevelChange | hatchOpened | hatchClosed | liftOut | liftIn | latchContactChange
    | latchTravelTimeout | grantTimerExpiry | openTimerExpiry | latchRestExpiry => exact others rfl
    | _ => trivial

end Sys2Proof.Proofs.Footprints
end

section
/-! Proofs, ProfileItems: what a setting changes of the profile, and that a write taken leaves every item in its range and every relation standing (09 9.7, R170). -/

namespace Sys2Proof.Proofs.Profiles

open Sys2Proof Sys2Proof.Machine

/-! ### What one setting changes (R171) -/

section
variable (p : Profile) (x : Setting)

/-- A setting is put into its column's items; a global one changes none of them. -/
theorem put_column_self {c : Column} (h : x.columnIndex = c) :
    (p.put x).columns[c] = p.columns[c].put x := by
  subst h
  unfold Profile.put
  split
  case h_18 => simp
  all_goals
    rename_i hcode
    simp [ColumnProfile.put, hcode]

theorem put_column_other {c : Column} (h : x.columnIndex ≠ c) :
    (p.put x).columns[c] = p.columns[c] := by
  have hval : x.columnIndex.val ≠ c.val := fun e => h (Fin.ext e)
  unfold Profile.put
  split
  case h_18 => simp [hval]
  all_goals rfl

/-- The other items keep their value: N, U, the service range and the blanking distance. -/
theorem put_range (h : x.code.toNat ≠ 0x01 ∧ x.code.toNat ≠ 0x02) :
    (p.put x).rangeLow = p.rangeLow ∧ (p.put x).rangeHigh = p.rangeHigh := by
  unfold Profile.put
  split
  case h_1 hcode => exact absurd hcode h.1
  case h_2 hcode => exact absurd hcode h.2
  all_goals exact ⟨rfl, rfl⟩

theorem put_thresholds (h : x.code.toNat ≠ 0x03 ∧ x.code.toNat ≠ 0x04) :
    (p.put x).nearFull = p.nearFull ∧ (p.put x).full = p.full := by
  unfold Profile.put
  split
  case h_3 hcode => exact absurd hcode h.1
  case h_4 hcode => exact absurd hcode h.2
  all_goals exact ⟨rfl, rfl⟩

theorem put_blanking (h : x.code.toNat ≠ 0x0A) : (p.put x).blanking = p.blanking := by
  unfold Profile.put
  split
  case h_10 hcode => exact absurd hcode h
  all_goals rfl

theorem put_emptyDistance (q : ColumnProfile) (h : x.code.toNat ≠ 0x22) :
    (q.put x).emptyDistance = q.emptyDistance := by
  unfold ColumnProfile.put
  split
  case h_3 hcode => exact absurd hcode h
  all_goals rfl

theorem put_fullDistance (q : ColumnProfile) (h : x.code.toNat ≠ 0x23) :
    (q.put x).fullDistance = q.fullDistance := by
  unfold ColumnProfile.put
  split
  case h_4 hcode => exact absurd hcode h
  all_goals rfl

/-- A setting of another column, or of another item, leaves a column's E. -/
theorem put_columnEmpty {c : Column} (h : ¬(x.code.toNat = 0x22 ∧ x.columnIndex = c)) :
    (p.put x).columns[c].emptyDistance = p.columns[c].emptyDistance := by
  by_cases hc : x.columnIndex = c
  · rw [put_column_self p x hc, put_emptyDistance _ _ fun e => h ⟨e, hc⟩]
  · rw [put_column_other p x hc]

/-- A setting of another column, or of another item, leaves a column's F. -/
theorem put_columnFull {c : Column} (h : ¬(x.code.toNat = 0x23 ∧ x.columnIndex = c)) :
    (p.put x).columns[c].fullDistance = p.columns[c].fullDistance := by
  by_cases hc : x.columnIndex = c
  · rw [put_column_self p x hc, put_fullDistance _ _ fun e => h ⟨e, hc⟩]
  · rw [put_column_other p x hc]

end

/-- What every setting of a write leaves of the profile, the write leaves. -/
theorem putAll_keeps {α : Type} (view : Profile → α) (p : Profile) {xs : List Setting}
    (h : ∀ x ∈ xs, ∀ q : Profile, view (q.put x) = view q) : view (p.putAll xs) = view p := by
  induction xs generalizing p with
  | nil => rfl
  | cons x xs ih =>
    exact (ih (p.put x) fun y hy => h y (List.mem_cons_of_mem _ hy)).trans (h x List.mem_cons_self p)

/-! ### The ranges (09 9.7) -/

/-- A column's items whose range names no other item. -/
structure ColumnInRange (p : ColumnProfile) : Prop where
  increment : 0 ≤ p.increment ∧ p.increment ≤ 20
  window : ∀ w, p.quietWindow = some w → w.1 ≤ 1439 ∧ w.2 ≤ 1439 ∧ w.1 ≠ w.2

/-- Every item in its own range; what a range says of another item is a relation. -/
structure InRanges (p : Profile) : Prop where
  rangeLow : 1 ≤ p.rangeLow ∧ p.rangeLow ≤ 0xFFFFFFFF
  rangeHigh : 1 ≤ p.rangeHigh ∧ p.rangeHigh ≤ 0xFFFFFFFF
  nearFull : 1 ≤ p.nearFull ∧ p.nearFull ≤ 199
  full : 2 ≤ p.full ∧ p.full ≤ 200
  normalInterval : 1 ≤ p.normalInterval ∧ p.normalInterval ≤ 15
  nearFullInterval : 1 ≤ p.nearFullInterval ∧ p.nearFullInterval ≤ 15
  fullInterval : 1 ≤ p.fullInterval ∧ p.fullInterval ≤ 15
  scanPause : 2 ≤ p.scanPause ∧ p.scanPause ≤ 600
  spreadTolerance : 5 ≤ p.spreadTolerance ∧ p.spreadTolerance ≤ 250
  blanking : 100 ≤ p.blanking ∧ p.blanking ≤ 500
  grantLimit : 5 ≤ p.grantLimit ∧ p.grantLimit ≤ 60
  hatchOpenLimit : 20 ≤ p.hatchOpenLimit ∧ p.hatchOpenLimit ≤ 600
  crewOpenLimit : 60 ≤ p.crewOpenLimit ∧ p.crewOpenLimit ≤ 3600
  travelLimit : 300 ≤ p.travelLimit ∧ p.travelLimit ≤ 2000
  settleTime : 5 ≤ p.settleTime ∧ p.settleTime ≤ 120
  keepTime : 60 ≤ p.keepTime ∧ p.keepTime ≤ 1800
  remeasure : 1 ≤ p.remeasure ∧ p.remeasure ≤ 15
  columns : ∀ c : Column, ColumnInRange p.columns[c]

theorem within_iff {lo hi v : Nat} : within lo hi v = true ↔ lo ≤ v ∧ v ≤ hi := by simp [within]

/-- A quiet window put into force is absent, or two unequal minutes of day. -/
theorem windowOf_good {w v : Nat × Nat} (h : goodWindow w = true) (hv : windowOf w = some v) :
    v.1 ≤ 1439 ∧ v.2 ≤ 1439 ∧ v.1 ≠ v.2 := by
  unfold windowOf at hv
  split at hv
  · cases hv
  · rename_i hpresent
    cases hv
    simpa [goodWindow, hpresent, and_assoc] using h

section
variable {x : Setting} (hx : x.inRange = true)
include hx

/-- A setting in its range leaves a column's items in theirs. -/
theorem put_columnInRange {p : ColumnProfile} (hp : ColumnInRange p) : ColumnInRange (p.put x) := by
  unfold ColumnProfile.put
  split
  case h_5 hcode =>
    simp only [Setting.inRange, hcode] at hx
    exact { hp with increment := within_iff.mp hx }
  case h_6 hcode =>
    simp only [Setting.inRange, hcode] at hx
    exact { hp with window := fun w hw => windowOf_good hx hw }
  all_goals exact ⟨hp.increment, hp.window⟩

/-- A setting in its range leaves every item in its range. -/
theorem put_inRanges {p : Profile} (hp : InRanges p) : InRanges (p.put x) := by
  have hcolumns (c : Column) : ColumnInRange (p.put x).columns[c] := by
    by_cases hc : x.columnIndex = c
    · rw [put_column_self p x hc]
      exact put_columnInRange hx (hp.columns _)
    · rw [put_column_other p x hc]
      exact hp.columns c
  unfold Profile.put at hcolumns ⊢
  split at hcolumns <;> rename_i hcode
  case h_18 => exact { hp with columns := hcolumns }
  all_goals simp only [Setting.inRange, hcode, within_iff] at hx
  case h_1 => exact { hp with rangeLow := hx }
  case h_2 => exact { hp with rangeHigh := hx }
  case h_3 => exact { hp with nearFull := hx }
  case h_4 => exact { hp with full := hx }
  case h_5 => exact { hp with normalInterval := hx }
  case h_6 => exact { hp with nearFullInterval := hx }
  case h_7 => exact { hp with fullInterval := hx }
  case h_8 => exact { hp with scanPause := hx }
  case h_9 => exact { hp with spreadTolerance := hx }
  case h_10 => exact { hp with blanking := hx }
  case h_11 => exact { hp with grantLimit := hx }
  case h_12 => exact { hp with hatchOpenLimit := hx }
  case h_13 => exact { hp with crewOpenLimit := hx }
  case h_14 => exact { hp with travelLimit := hx }
  case h_15 => exact { hp with settleTime := hx }
  case h_16 => exact { hp with keepTime := hx }
  case h_17 => exact { hp with remeasure := hx }

end

theorem putAll_inRanges {xs : List Setting} (hxs : ∀ x ∈ xs, x.inRange = true) {p : Profile}
    (hp : InRanges p) : InRanges (p.putAll xs) := by
  induction xs generalizing p with
  | nil => exact hp
  | cons x xs ih =>
    exact ih (fun y hy => hxs y (List.mem_cons_of_mem _ hy))
      (put_inRanges (hxs x List.mem_cons_self) hp)

/-! ### The relations (R170) -/

/-- The relations between items. -/
structure Related (p : Profile) : Prop where
  range : p.rangeLow ≤ p.rangeHigh
  thresholds : p.nearFull < p.full
  blanked : ∀ c : Column, p.blanking + 50 ≤ p.columns[c].fullDistance
  apart : ∀ c : Column, p.columns[c].fullDistance + 100 ≤ p.columns[c].emptyDistance
  reach : ∀ c : Column, p.columns[c].emptyDistance ≤ 3900

/-- The law of the profile is its ranges and its relations. -/
theorem profileLaw_iff (s : State) : ProfileLaw s ↔ InRanges s.profile ∧ Related s.profile := by
  constructor
  · rintro ⟨⟨hlow, hrange, hhigh⟩, ⟨hnear, hthresholds, hfull⟩, h5, h6, h7, h8, h9, hblank, h11, h12,
      h13, h14, h15, h16, h17, hcolumns⟩
    exact
      ⟨⟨⟨hlow, by omega⟩, ⟨by omega, hhigh⟩, ⟨hnear, by omega⟩, ⟨by omega, hfull⟩, h5, h6, h7, h8, h9,
          hblank, h11, h12, h13, h14, h15, h16, h17, fun c =>
            have ⟨_, _, _, hincrement, hwindow⟩ := hcolumns c
            ⟨⟨Nat.zero_le _, hincrement⟩, hwindow⟩⟩,
        ⟨hrange, hthresholds, fun c => (hcolumns c).1, fun c => (hcolumns c).2.1,
          fun c => (hcolumns c).2.2.1⟩⟩
  · rintro ⟨r, q⟩
    exact ⟨⟨r.rangeLow.1, q.range, r.rangeHigh.2⟩, ⟨r.nearFull.1, q.thresholds, r.full.2⟩,
      r.normalInterval, r.nearFullInterval, r.fullInterval, r.scanPause, r.spreadTolerance,
      r.blanking, r.grantLimit, r.hatchOpenLimit, r.crewOpenLimit, r.travelLimit, r.settleTime,
      r.keepTime, r.remeasure, fun c => ⟨q.blanked c, q.apart c, q.reach c,
        (r.columns c).increment.2, (r.columns c).window⟩⟩

section
variable {p : Profile} {xs : List Setting}

/-- Either a setting of the write is one of those named, or what those named alone change stays. -/
theorem named_or_kept {α : Type} (view : Profile → α) (named : Setting → Prop)
    (h : ∀ x, ¬named x → ∀ q : Profile, view (q.put x) = view q) :
    (∃ x ∈ xs, named x) ∨ view (p.putAll xs) = view p := by
  by_cases hnamed : ∃ x ∈ xs, named x
  · exact .inl hnamed
  · exact .inr (putAll_keeps view p fun x hx => h x fun hn => hnamed ⟨x, hx, hn⟩)

/-- Where no setting takes part in a relation that the profile then breaks, the relations stand: one
that a setting takes part in was checked, and any other stands as before. -/
theorem putAll_related (hp : Related p)
    (hxs : ∀ x ∈ xs, Setting.breaks (p.putAll xs) x = false) : Related (p.putAll xs) where
  range := by
    rcases named_or_kept (p := p) (xs := xs) (fun q => (q.rangeLow, q.rangeHigh))
      (fun x => x.code.toNat = 0x01 ∨ x.code.toNat = 0x02)
      (fun x hx q => Prod.ext_iff.mpr (put_range q x (not_or.mp hx))) with ⟨x, hx, hcode⟩ | hkept
    · have := hxs x hx
      rcases hcode with hcode | hcode <;> simpa [Setting.breaks, hcode] using this
    · obtain ⟨hlow, hhigh⟩ := Prod.mk.inj hkept
      exact hlow ▸ hhigh ▸ hp.range
  thresholds := by
    rcases named_or_kept (p := p) (xs := xs) (fun q => (q.nearFull, q.full))
      (fun x => x.code.toNat = 0x03 ∨ x.code.toNat = 0x04)
      (fun x hx q => Prod.ext_iff.mpr (put_thresholds q x (not_or.mp hx))) with ⟨x, hx, hcode⟩ | hkept
    · have := hxs x hx
      rcases hcode with hcode | hcode <;> simpa [Setting.breaks, hcode] using this
    · obtain ⟨hnear, hfull⟩ := Prod.mk.inj hkept
      exact hnear ▸ hfull ▸ hp.thresholds
  blanked c := by
    rcases named_or_kept (p := p) (xs := xs) (fun q => (q.blanking, q.columns[c].fullDistance))
      (fun x => x.code.toNat = 0x0A ∨ x.code.toNat = 0x23 ∧ x.columnIndex = c)
      (fun x hx q => Prod.ext_iff.mpr ⟨put_blanking q x (not_or.mp hx).1,
        put_columnFull q x (not_or.mp hx).2⟩) with ⟨x, hx, hcode | ⟨hcode, rfl⟩⟩ | hkept
    · have hbreaks := hxs x hx
      simp only [Setting.breaks, hcode, List.any_eq_false, decide_eq_true_eq, Nat.not_lt] at hbreaks
      exact hbreaks _ (Vector.mem_toList_iff.mpr (Vector.getElem_mem _))
    · have hbreaks := hxs x hx
      simp only [Setting.breaks, hcode, Bool.or_eq_false_iff, decide_eq_false_iff_not,
        Nat.not_lt] at hbreaks
      exact hbreaks.1
    · obtain ⟨hblank, hfull⟩ := Prod.mk.inj hkept
      exact hblank ▸ hfull ▸ hp.blanked c
  apart c := by
    rcases named_or_kept (p := p) (xs := xs)
      (fun q => (q.columns[c].emptyDistance, q.columns[c].fullDistance))
      (fun x => x.code.toNat = 0x22 ∧ x.columnIndex = c ∨ x.code.toNat = 0x23 ∧ x.columnIndex = c)
      (fun x hx q => Prod.ext_iff.mpr ⟨put_columnEmpty q x (not_or.mp hx).1,
        put_columnFull q x (not_or.mp hx).2⟩) with ⟨x, hx, ⟨hcode, rfl⟩ | ⟨hcode, rfl⟩⟩ | hkept
    · have hbreaks := hxs x hx
      simp only [Setting.breaks, hcode, Bool.or_eq_false_iff, decide_eq_false_iff_not,
        Nat.not_lt] at hbreaks
      exact hbreaks.2
    · have hbreaks := hxs x hx
      simp only [Setting.breaks, hcode, Bool.or_eq_false_iff, decide_eq_false_iff_not,
        Nat.not_lt] at hbreaks
      exact hbreaks.2
    · obtain ⟨hempty, hfull⟩ := Prod.mk.inj hkept
      exact hempty ▸ hfull ▸ hp.apart c
  reach c := by
    rcases named_or_kept (p := p) (xs := xs) (fun q => q.columns[c].emptyDistance)
      (fun x => x.code.toNat = 0x22 ∧ x.columnIndex = c)
      (fun x hx q => put_columnEmpty q x hx) with ⟨x, hx, hcode, rfl⟩ | hkept
    · have hbreaks := hxs x hx
      simp only [Setting.breaks, hcode, Bool.or_eq_false_iff, decide_eq_false_iff_not,
        Nat.not_lt] at hbreaks
      exact hbreaks.1
    · exact hkept ▸ hp.reach c

end

/-! ### A write taken (R170) -/

/-- A write that is not refused: no unknown code, and every setting passes every check. -/
theorem writeRefusal_none {s : State} {xs : List Setting} {unknown : Bool}
    (h : writeRefusal s xs unknown = none) :
    unknown = false ∧ (∀ x ∈ xs, x.inRange = true) ∧
      ∀ x ∈ xs, Setting.breaks (s.profile.putAll xs) x = false := by
  unfold writeRefusal at h
  split at h
  · cases h
  · split at h
    · cases h
    · rename_i hknown
      split at h
      · cases h
      · split at h
        · cases h
        · rename_i hranges
          split at h
          · cases h
          · rename_i hrelations
            refine ⟨by simpa using hknown, fun x hx => ?_, fun x hx => ?_⟩
            · simpa using List.findIdx?_eq_none_iff.mp hranges x hx
            · exact List.findIdx?_eq_none_iff.mp hrelations x hx

/-- A refusal's status is not OK. -/
theorem writeRefusal_status {s : State} {xs : List Setting} {unknown : Bool} {st : Status} {i : Nat}
    (h : writeRefusal s xs unknown = some (st, i)) : st.code ≠ 0x00 := by
  unfold writeRefusal at h
  repeat' split at h
  all_goals cases h <;> decide

end Sys2Proof.Proofs.Profiles
end

section
/-! Proofs, ProfileSteps: only a PROFILE WRITE and a full reset change the profile, and both leave it legal, so every step does (R170, R171, R174). -/

namespace Sys2Proof.Proofs.Profiles

open Sys2Proof Sys2Proof.Machine
open Sys2Proof.Proofs.Footprints

variable {s t : State}

/-! ### What a write makes of the profile -/

/-- The columns switched and the bands rejudged leave the profile that the write has put. -/
theorem applySettings_profile (xs : List Setting) (s : State) :
    (applySettings xs s).profile = s.profile.putAll xs :=
  (settingsTaken_within (L := fun p => p ≠ .profile) (s := { s with profile := s.profile.putAll xs })
    nofun nofun s.profile xs (.refl _)).profile fun h => h rfl

/-- A write leaves the profile as it is, or puts settings that passed every check. -/
theorem profileWrite_profile (body : List Byte) (s : State) :
    (profileWrite body s).1.profile = s.profile ∨
      ∃ xs, writeRefusal s xs false = none ∧
        (profileWrite body s).1.profile = s.profile.putAll xs := by
  unfold profileWrite
  split
  · exact .inl rfl
  · split
    · exact .inl rfl
    · rename_i xs unknown _
      split
      · exact .inl rfl
      · rename_i hpassed
        obtain ⟨rfl, -, -⟩ := writeRefusal_none hpassed
        exact .inr ⟨xs, hpassed, applySettings_profile xs s⟩

theorem profileWrite_keeps_law (body : List Byte) (h : ProfileLaw s) :
    ProfileLaw (profileWrite body s).1 := by
  obtain ⟨hranges, hrelated⟩ := (profileLaw_iff s).mp h
  rw [profileLaw_iff]
  rcases profileWrite_profile body s with hsame | ⟨xs, hpassed, hput⟩
  · rw [hsame]
    exact ⟨hranges, hrelated⟩
  · obtain ⟨-, hinRange, hbreaks⟩ := writeRefusal_none hpassed
    rw [hput]
    exact ⟨putAll_inRanges hinRange hranges, putAll_related hrelated hbreaks⟩

/-! ### Every command and every step -/

/-- The law reads the profile alone. -/
theorem profileLaw_congr (h : t.profile = s.profile) (hs : ProfileLaw s) : ProfileLaw t := by
  rw [profileLaw_iff] at hs ⊢
  exact h ▸ hs

theorem execProfileWrite_keeps_law {body : List Byte} (h : execProfileWrite body s = .next t)
    (hs : ProfileLaw s) : ProfileLaw t := by
  have hready : ProfileLaw s.ready := profileLaw_congr (by simp) hs
  cases h
  unfold serve
  split
  · exact profileLaw_congr (by simp) hready
  · exact profileLaw_congr (s := (profileWrite body (hostFrameEnds s.ready)).1) (by simp)
      (profileWrite_keeps_law body (profileLaw_congr (by simp) hready))

/-- The defaults are legal (09 9.7). -/
theorem fullReset_profileLaw (s : State) : ProfileLaw (fullReset s) := by
  have hcolumns (c : Column) : Profile.default.columns[c] = ColumnProfile.default := by
    simp [Profile.default]
  have hprofile : (fullReset s).profile = Profile.default := rfl
  rw [profileLaw_iff, hprofile]
  constructor
  · constructor
    case columns =>
      intro c
      rw [hcolumns]
      exact ⟨by decide, nofun⟩
    all_goals decide
  · constructor
    case range | thresholds => decide
    all_goals
      intro c
      rw [hcolumns]
      decide

/-- Every command keeps the law. -/
theorem exec_keeps_profileLaw (i : Instr) (h : exec i s = .next t) (hs : ProfileLaw s) :
    ProfileLaw t := by
  cases i with
  | profileWrite body => exact execProfileWrite_keeps_law h hs
  | fullReset => cases h; exact fullReset_profileLaw s
  | _ => exact profileLaw_congr ((exec_within _ h).profile id) hs

/-- What a line brings leaves the profile, or it is a command. -/
theorem arrive_keeps_profileLaw {line : Line} {heard : Heard} (h : arrive line heard s = .next t)
    (hs : ProfileLaw s) : ProfileLaw t := by
  unfold arrive at h
  split at h
  · cases h; exact hs
  · split at h
    · cases h; exact profileLaw_congr (by simp) hs
    · exact exec_keeps_profileLaw _ h hs

/-- An event due is a command, or the next block of a restart, of which none writes the profile. -/
theorem takeDue_keeps_profileLaw {i : Instr} (h : takeDue i s = .next t) (hs : ProfileLaw s) :
    ProfileLaw t := by
  unfold takeDue at h
  split at h
  · cases h
    exact profileLaw_congr
      ((restartNext_within (mayChange_softRestart s) (.refl s)).profile id) hs
  · exact exec_keeps_profileLaw i h hs

theorem tick_keeps_profileLaw (h : tick s = .next t) (hs : ProfileLaw s) : ProfileLaw t := by
  rcases tick_cases s with ⟨-, ht⟩ | ⟨-, line, heard, rest, -, harrive⟩ | ⟨-, -, -, ht⟩ |
    ⟨-, -, i, -, ht⟩
  · rw [ht] at h; cases h
    exact profileLaw_congr (by simp) hs
  · rcases harrive with ⟨-, ht⟩ | ⟨r, -, -, ht⟩
    · exact arrive_keeps_profileLaw (s := { s with arriving := rest }) (ht ▸ h) hs
    · exact exec_keeps_profileLaw _ (ht ▸ h) hs
  · rw [ht] at h; cases h
    exact hs
  · exact takeDue_keeps_profileLaw (s := { s with draws := s.draws + 1 }) (ht ▸ h) hs

/-- Settles O59: a step is a command or what the part does by itself; of all these a PROFILE WRITE alone
puts settings, once they have passed every check, and a full reset the defaults. -/
theorem stepKeepsProfileLaw : Obligations.StepKeepsProfileLaw := by
  intro s t h hs
  unfold step at h
  split at h
  · exact tick_keeps_profileLaw h hs
  · rename_i c rest _
    exact exec_keeps_profileLaw (s := { s with pending := rest }) c h hs

end Sys2Proof.Proofs.Profiles
end

section
/-! Proofs, ProfileWrites: a PROFILE WRITE refused or taken whole, and one setting judged by range, relation and column state: N with the bands that it rejudges, and a column's fraction (R105, R170, R171). -/

namespace Sys2Proof.Proofs.Profiles

open Sys2Proof Sys2Proof.Machine
open Sys2Proof.Proofs.Footprints
open Sys2Proof.Proofs.CardTables (served_unchanged applySettings_table)
open Sys2Proof.Proofs.ClockPeriod (served_changed)
open Sys2Proof.Proofs.EmptyingRounds (columnOf_column)

variable {s : State}

/-! ### Refused, or taken whole (R170, R171) -/

/-- A write is refused with a status that is not OK and changes nothing, or its settings, read to the end
of the body, are put. -/
theorem profileWrite_cases (body : List Byte) (s : State) :
    (∃ st fields, st ≠ 0x00 ∧ profileWrite body s = (s, st :: fields)) ∨
      ∃ xs, parseSettings body.length body = some (xs, false) ∧
        profileWrite body s = (applySettings xs s, [0x00, byte xs.length]) := by
  unfold profileWrite
  split
  · exact .inl ⟨_, _, by decide, rfl⟩
  · split
    · exact .inl ⟨_, _, by decide, rfl⟩
    · rename_i xs unknown hparsed
      split
      · rename_i hrefused
        exact .inl ⟨_, _, writeRefusal_status hrefused, rfl⟩
      · rename_i hpassed
        obtain ⟨rfl, -, -⟩ := writeRefusal_none hpassed
        exact .inr ⟨xs, hparsed, rfl⟩

/-- A write as a whole: refused, it changes nothing; taken, it puts every setting and leaves the clock, the
period, the table, the time base and the link's transfer and error count. -/
theorem profileWrite_judged (body : List Byte) (hs : s.chosen) (hi : s.host.inHand = none) :
    (∃ st fields, st ≠ 0x00 ∧ exec (.profileWrite body) s = .next (s.answered 0x86 (st :: fields))) ∨
      (∃ xs t, parseSettings body.length body = some (xs, false) ∧
        exec (.profileWrite body) s = .next t ∧ t.replies 0x86 [0x00, byte xs.length] ∧
        t.profile = s.profile.putAll xs ∧ t.clock = s.clock ∧ t.period = s.period ∧
        t.table = s.table ∧ t.now = s.now ∧ t.host.transfer = s.host.transfer ∧
        t.host.linkErrors = s.host.linkErrors) := by
  rcases profileWrite_cases body (hostFrameEnds s) with ⟨st, fields, hst, hact⟩ | ⟨xs, hparsed, hact⟩
  · exact .inl ⟨st, fields, hst, served_unchanged hs hi (by decide) hact⟩
  · have hexec : exec (.profileWrite body) s = .next _ := served_changed hs hi (by decide) hact
    have within := exec_within _ hexec
    have hfree : ¬mayChange s (.profileWrite body) .linkErrors := fun ⟨_, hbusy⟩ => by
      simp [hi] at hbusy
    exact .inr ⟨xs, _, hparsed, hexec, rfl, applySettings_profile xs _, within.clock id,
      within.period id, applySettings_table _ xs, within.time nofun, within.transfer id,
      within.linkErrors hfree⟩

/-! ### One setting judged (R170) -/

section
variable {x : Setting}

theorem refusal_range (hcolumn : x.columnGood = true) (h : x.inRange = false) :
    writeRefusal s [x] false = some (.badValue, 0) := by
  simp [writeRefusal, firstRepeat, hcolumn, h]

theorem refusal_relation (hcolumn : x.columnGood = true) (hrange : x.inRange = true)
    (h : Setting.breaks (s.profile.put x) x = true) :
    writeRefusal s [x] false = some (.badValue, 0) := by
  simp [writeRefusal, firstRepeat, Profile.putAll, hcolumn, hrange, h]

theorem refusal_state (hcolumn : x.columnGood = true) (hrange : x.inRange = true)
    (hrelated : Setting.breaks (s.profile.put x) x = false) (h : Setting.wrongState s x = true) :
    writeRefusal s [x] false = some (.wrongState, 0) := by
  simp [writeRefusal, firstRepeat, Profile.putAll, hcolumn, hrange, hrelated, h]

theorem refusal_none (hcolumn : x.columnGood = true) (hrange : x.inRange = true)
    (hrelated : Setting.breaks (s.profile.put x) x = false) (h : Setting.wrongState s x = false) :
    writeRefusal s [x] false = none := by
  simp [writeRefusal, firstRepeat, Profile.putAll, hcolumn, hrange, hrelated, h]

/-- One setting put, if it is not the enabled item: the bands are rejudged and the engine chooses. -/
theorem applySettings_one (h : x.code ≠ 0x20) :
    applySettings [x] s =
      chooseNext (rejudgeBands s.profile { s with profile := s.profile.put x }) := by
  have hcode : ¬x.code = 32#8 := h
  simp [applySettings, switchColumn, Profile.putAll, hcode]

end

/-- A body of one setting with a value of one byte. -/
theorem parseSettings_one {code : Byte} (h : itemWidth code = some 1) (column v : Byte) :
    parseSettings 3 [code, column, v] = some ([⟨code, column, [v]⟩], false) := by
  simp [parseSettings, h]

section
variable {code column v : Byte} (hw : itemWidth code = some 1) (hs : s.chosen)
  (hi : s.host.inHand = none)
include hw hs hi

theorem oneSetting_refused {st : Status}
    (h : writeRefusal (hostFrameEnds s) [⟨code, column, [v]⟩] false = some (st, 0)) :
    exec (.profileWrite [code, column, v]) s = .next (s.answered 0x86 [st.code, 0]) := by
  refine served_unchanged hs hi (by decide) ?_
  simp only [profileWrite, List.length_cons, List.length_nil, parseSettings_one hw, h]
  rfl

theorem oneSetting_taken
    (h : writeRefusal (hostFrameEnds s) [⟨code, column, [v]⟩] false = none) :
    exec (.profileWrite [code, column, v]) s = .next
      { applySettings [⟨code, column, [v]⟩] (hostFrameEnds s) with
        host := { (applySettings [⟨code, column, [v]⟩] (hostFrameEnds s)).host with
          inHand := some ⟨⟨0x86, [0x00, 1]⟩, false, false⟩ } } := by
  refine served_changed hs hi (by decide) ?_
  simp only [profileWrite, List.length_cons, List.length_nil, parseSettings_one hw, h]
  rfl

end

/-! ### The bands rejudged (R103, R105) -/

/-- A column's fill with its band recomputed from the estimate as it stands. -/
def rejudged (p : Profile) (f : Fill) : Fill :=
  { f with band := nextBand p.nearFull p.full f.band f.estimate }

theorem recomputeBand_self (c : Column) (s : State) :
    (recomputeBand c s).fills[c] = rejudged s.profile s.fills[c] := by
  simp [recomputeBand, rejudged]

/-- Bands recomputed one after the other are recomputed each by itself. -/
theorem foldl_recomputeBand_fill {l : List Column} (hl : l.Nodup) (c : Column) (s : State) :
    (l.foldl (fun s c => recomputeBand c s) s).fills[c] =
      if c ∈ l then rejudged s.profile s.fills[c] else s.fills[c] := by
  induction l generalizing s with
  | nil => rfl
  | cons k l ih =>
    obtain ⟨hk, hl⟩ := List.nodup_cons.mp hl
    have hprofile : (recomputeBand k s).profile = s.profile := by simp
    rw [List.foldl_cons, ih hl, hprofile]
    by_cases hck : c = k
    · subst hck
      rw [if_neg hk, if_pos List.mem_cons_self, recomputeBand_self]
    · have hother : (recomputeBand k s).fills[c] = s.fills[c] := recomputeBand_other s k hck
      rw [hother]
      simp [hck]

/-- What every item of a list keeps of the state, the list keeps. -/
theorem foldl_keeps {α β : Type} (view : State → β) {f : State → α → State}
    (h : ∀ s a, view (f s a) = view s) (l : List α) (s : State) :
    view (l.foldl f s) = view s := by
  induction l generalizing s with
  | nil => rfl
  | cons a l ih => rw [List.foldl_cons, ih, h]

/-- The bands are the fill tracker's: the rejudging leaves the other blocks. -/
theorem rejudgeBands_frame (before : Profile) (s : State) :
    (rejudgeBands before s).sups = s.sups ∧ (rejudgeBands before s).access = s.access ∧
      (rejudgeBands before s).round = s.round ∧ (rejudgeBands before s).journal = s.journal := by
  unfold rejudgeBands
  split
  · exact ⟨rfl, rfl, rfl, rfl⟩
  · exact ⟨foldl_keeps (·.sups) (fun s c => by simp) .., foldl_keeps (·.access) (fun s c => by simp) ..,
      foldl_keeps (·.round) (fun s c => by simp) .., foldl_keeps (·.journal) (fun s c => by simp) ..⟩

/-- Every column's band is rejudged where N or U has changed. -/
theorem rejudgeBands_changed {before : Profile} (c : Column)
    (h : ¬(before.nearFull = s.profile.nearFull ∧ before.full = s.profile.full)) :
    (rejudgeBands before s).fills[c] = rejudged s.profile s.fills[c] := by
  have hall : c ∈ allColumns := by revert c; decide
  rw [rejudgeBands, if_neg h, foldl_recomputeBand_fill (by decide), if_pos hall]

theorem rejudgeBands_same {before : Profile}
    (h : before.nearFull = s.profile.nearFull ∧ before.full = s.profile.full) :
    rejudgeBands before s = s := if_pos h

/-! ### The near-full threshold N (R105) -/

section
variable (v : Byte)

/-- The setting of N. -/
def nearFullSetting : Setting := ⟨0x03, 0xFF, [v]⟩

theorem nearFullSetting_number : (nearFullSetting v).number = v.toNat := by
  simp [nearFullSetting, Setting.number, Machine.number]

theorem nearFullSetting_code : (nearFullSetting v).code ≠ 0x20 := by
  change (0x03 : Byte) ≠ 0x20
  decide

theorem nearFullSetting_put (p : Profile) :
    p.put (nearFullSetting v) = { p with nearFull := v.toNat } := by
  rw [← nearFullSetting_number v]
  rfl

theorem nearFullSetting_inRange :
    (nearFullSetting v).inRange = true ↔ 1 ≤ v.toNat ∧ v.toNat ≤ 199 := by
  rw [← nearFullSetting_number v]
  exact within_iff

theorem nearFullSetting_breaks (p : Profile) :
    (nearFullSetting v).breaks p = decide (p.full ≤ p.nearFull) := rfl

theorem nearFull_refused (h : v.toNat = 0 ∨ 199 < v.toNat ∨ s.profile.full ≤ v.toNat) :
    writeRefusal s [nearFullSetting v] false = some (.badValue, 0) := by
  by_cases hrange : (nearFullSetting v).inRange = true
  · have hfull : s.profile.full ≤ v.toNat := by
      have := (nearFullSetting_inRange v).mp hrange
      omega
    refine refusal_relation rfl hrange ?_
    rw [nearFullSetting_breaks, nearFullSetting_put]
    exact decide_eq_true hfull
  · exact refusal_range rfl (by simpa using hrange)

theorem nearFull_passed (h1 : 1 ≤ v.toNat) (h199 : v.toNat ≤ 199) (hfull : v.toNat < s.profile.full) :
    writeRefusal s [nearFullSetting v] false = none := by
  refine refusal_none rfl ((nearFullSetting_inRange v).mpr ⟨h1, h199⟩) ?_ rfl
  rw [nearFullSetting_breaks, nearFullSetting_put]
  exact decide_eq_false (Nat.not_le.mpr hfull)

/-- N put into force rejudges every band against it, unless it is as it was. -/
theorem nearFull_fills (c : Column) :
    (applySettings [nearFullSetting v] s).fills[c] =
      { s.fills[c] with
        band :=
          if v.toNat = s.profile.nearFull then s.fills[c].band
          else nextBand v.toNat s.profile.full s.fills[c].band s.fills[c].estimate } := by
  rw [applySettings_one (nearFullSetting_code v), nearFullSetting_put]
  simp only [chooseNext_frame]
  split
  · rename_i hsame
    rw [rejudgeBands_same (by exact ⟨hsame.symm, rfl⟩)]
  · rename_i hnew
    exact rejudgeBands_changed c fun h => hnew h.1.symm

theorem nearFull_frame :
    (applySettings [nearFullSetting v] s).sups = s.sups ∧
      (applySettings [nearFullSetting v] s).access = s.access ∧
      (applySettings [nearFullSetting v] s).round = s.round ∧
      (applySettings [nearFullSetting v] s).journal = s.journal := by
  rw [applySettings_one (nearFullSetting_code v)]
  simpa using rejudgeBands_frame s.profile { s with profile := s.profile.put (nearFullSetting v) }

end

/-! ### A column's fraction -/

section
variable (c : Column) (v : Byte)

/-- The setting of a column's fraction. -/
def fractionSetting : Setting := ⟨0x21, byte c.val, [v]⟩

theorem byte_column : (byte c.val).toNat = c.val := by
  have := c.isLt
  simp only [byte, BitVec.toNat_ofNat]
  omega

theorem fractionSetting_columnIndex : (fractionSetting c v).columnIndex = c := by
  simp [fractionSetting, Setting.columnIndex, columnOf_column (byte_column c)]

theorem fractionSetting_columnGood : (fractionSetting c v).columnGood = true := by
  have hcolumn : decide ((byte c.val).toNat < 12) = true := by simp [byte_column c]
  exact hcolumn

theorem fractionSetting_code : (fractionSetting c v).code ≠ 0x20 := by
  change (0x21 : Byte) ≠ 0x20
  decide

theorem fractionSetting_number : (fractionSetting c v).number = v.toNat := by
  simp [fractionSetting, Setting.number, Machine.number]

theorem fractionSetting_inRange : (fractionSetting c v).inRange = true ↔ v.toNat ≤ 5 := by
  rw [← fractionSetting_number c v]
  exact within_iff.trans (by simp)

theorem fractionSetting_wrongState : (fractionSetting c v).wrongState s = true ↔
    s.access[c].state ≠ .locked ∨ s.round.lists c = true := by
  have hlocal : (fractionSetting c v).isGlobal = false := rfl
  simp [Setting.wrongState, fractionSetting_columnIndex, hlocal]

theorem fraction_badValue (h : 5 < v.toNat) :
    writeRefusal s [fractionSetting c v] false = some (.badValue, 0) :=
  refusal_range (fractionSetting_columnGood c v)
    (Bool.eq_false_iff.mpr fun hr => Nat.not_le.mpr h ((fractionSetting_inRange c v).mp hr))

theorem fraction_wrongState (h : v.toNat ≤ 5)
    (hw : s.access[c].state ≠ .locked ∨ s.round.lists c = true) :
    writeRefusal s [fractionSetting c v] false = some (.wrongState, 0) :=
  refusal_state (fractionSetting_columnGood c v) ((fractionSetting_inRange c v).mpr h) rfl
    ((fractionSetting_wrongState c v).mpr hw)

theorem fraction_passed (h : v.toNat ≤ 5) (hlocked : s.access[c].state = .locked)
    (hlists : s.round.lists c = false) : writeRefusal s [fractionSetting c v] false = none :=
  refusal_none (fractionSetting_columnGood c v) ((fractionSetting_inRange c v).mpr h) rfl
    (Bool.eq_false_iff.mpr fun hw => by
      rcases (fractionSetting_wrongState c v).mp hw with hstate | hlist
      · exact hstate hlocked
      · simp [hlists] at hlist)

/-- A fraction leaves N and U, so no band is rejudged. -/
theorem fraction_put : applySettings [fractionSetting c v] s =
    chooseNext { s with profile := s.profile.put (fractionSetting c v) } := by
  rw [applySettings_one (fractionSetting_code c v), rejudgeBands_same (by exact ⟨rfl, rfl⟩)]

theorem fraction_value (p : Profile) (h : v.toNat ≤ 5) :
    ((p.put (fractionSetting c v)).columns[c]).fraction.val = v.toNat := by
  rw [put_column_self p _ (fractionSetting_columnIndex c v)]
  show (fractionSetting c v).number % 6 = v.toNat
  rw [fractionSetting_number]
  omega

end

/-- Settles O9: a write passes every check or changes nothing, and one setting meets the checks in the
order of R170. -/
theorem profileWriteJudged : Obligations.ProfileWriteJudged := by
  refine ⟨fun s body hs hi => profileWrite_judged body hs hi, fun s hs hi =>
    ⟨fun v h => ?_, fun v h1 h199 hfull => ?_, fun c v h => ?_, fun c v h hw => ?_,
      fun c v h hlocked hlists => ?_⟩⟩
  · exact oneSetting_refused rfl hs hi (nearFull_refused v h)
  · refine ⟨_, oneSetting_taken rfl hs hi (nearFull_passed v h1 h199 hfull), rfl, ?_, ?_⟩
    · exact (applySettings_profile ..).trans (nearFullSetting_put v _)
    · obtain ⟨hsups, haccess, hround, hjournal⟩ := nearFull_frame (s := hostFrameEnds s) v
      exact ⟨hsups, haccess, hround, hjournal, nearFull_fills (s := hostFrameEnds s) v⟩
  · exact oneSetting_refused rfl hs hi (fraction_badValue c v h)
  · exact oneSetting_refused rfl hs hi (fraction_wrongState c v h hw)
  · refine ⟨_, oneSetting_taken rfl hs hi (fraction_passed c v h hlocked hlists), rfl, ?_, ?_, ?_⟩
    · show ((applySettings [fractionSetting c v] (hostFrameEnds s)).profile.columns[c]).fraction.val = _
      rw [applySettings_profile]
      exact fraction_value c v _ h
    · intro k hk
      show (applySettings [fractionSetting c v] (hostFrameEnds s)).profile.columns[k] = _
      rw [applySettings_profile]
      exact put_column_other _ _ fun e => hk (e.symm.trans (fractionSetting_columnIndex c v))
    · show (applySettings [fractionSetting c v] (hostFrameEnds s)).sups = _ ∧
        (applySettings [fractionSetting c v] (hostFrameEnds s)).access = _ ∧
        (applySettings [fractionSetting c v] (hostFrameEnds s)).fills = _ ∧
        (applySettings [fractionSetting c v] (hostFrameEnds s)).alerts = _
      rw [fraction_put]
      simp

end Sys2Proof.Proofs.Profiles
end

section
/-! Proofs, FramesAnswered: a frame discarded while a request is in hand, a frame answered with an error status, and the requests that read the part (R131, R162, R163, R168, R169, R172). -/

namespace Sys2Proof.Proofs.PartRequests

open Sys2Proof Sys2Proof.Machine
open Sys2Proof.Proofs.CardTables (served served_unchanged)

section
variable {s : State}

/-! ### A request in hand (R162; log 5) -/

theorem busy_discards (hs : s.chosen) (hi : s.host.inHand.isSome = true) (kind : Byte)
    (act : State → State × List Byte) :
    event (serve kind act) s = .next { s with host := { s.host with
      frame := none, linkErrors := min 65535 (s.host.linkErrors + 1) } } := by
  rw [event_chosen _ s hs, serve_busy _ _ s hi]
  rfl

theorem frameWhileRequestInHand_discards (hs : s.chosen) (hi : s.host.inHand.isSome = true) :
    exec .frameWhileRequestInHand s = .next { s with host := { s.host with
      frame := none, linkErrors := min 65535 (s.host.linkErrors + 1) } } := by
  simp only [exec, execFrameWhileRequestInHand]
  rw [event_chosen _ s hs, if_pos hi]
  rfl

/-- Settles O5: every complete frame is served by one operation, which looks at the link first. -/
theorem busyLinkDiscardsFrame : Obligations.BusyLinkDiscardsFrame := by
  intro c s hs hframe hi
  cases c with
  | frameWhileRequestInHand => exact frameWhileRequestInHand_discards hs hi
  | identify | status | restart | timeSet | periodSet | profileWrite | profileRead | alertFetch
  | alertFloor | tableWrite | tableData | tableVerify | tableErase | tableSum | tablePin | tableRelease
  | cardQuery | cardModify | columnRead | columnService | columnWithdraw | columnMeasure | roundOpen
  | roundClaim | roundSkip | roundKeep | roundClose | roundRead | journalRead | journalRelease
  | checkError | unknownKind => exact busy_discards hs hi _ _
  | _ => cases hframe

/-! ### CHECK ERROR and UNKNOWN KIND (R162) -/

theorem checkError_answered (hs : s.chosen) (hi : s.host.inHand = none) :
    exec .checkError s = .next
      { s.answered 0xFF [0x01] with host := { (s.answered 0xFF [0x01]).host with
          linkErrors := min 65535 (s.host.linkErrors + 1) } } := by
  have hserved : exec .checkError s = _ := served hs hi
  rw [hserved, putInHand_plain _ _ _ (by decide)]
  rfl

theorem unknownKind_answered (hs : s.chosen) (hi : s.host.inHand = none) (k : Byte) :
    exec (.unknownKind k) s = .next (s.answered 0xFF [0x02, k]) :=
  served_unchanged hs hi (by decide) rfl

/-! ### BAD LENGTH (R163) -/

/-- A request refused with BAD LENGTH changes nothing; a RESTART so refused is answered as any other. -/
theorem badLength_answered (hs : s.chosen) (hi : s.host.inHand = none) {kind : Byte}
    {act : State → State × List Byte}
    (h : act (hostFrameEnds s) = refuse .badLength (hostFrameEnds s)) :
    event (serve kind act) s = .next (s.answered kind [0x03]) := by
  have hnotOk : decide (([0x03] : List Byte) = [0x00]) = false := by decide
  rw [served hs hi, h]
  show Host.Outcome.next (putInHand kind [0x03] (hostFrameEnds s)) = _
  simp only [putInHand, hnotOk, Bool.and_false]
  rfl

end

section
variable {body : List Byte} {u : State}

theorem withNoBody_badLength {act : State → State × List Byte} (h : decide (body.length = 0) = false) :
    withNoBody body act u = refuse .badLength u := by
  cases body with
  | nil => cases h
  | cons => rfl

theorem withByte_badLength {act : Byte → State → State × List Byte}
    (h : decide (body.length = 1) = false) : withByte body act u = refuse .badLength u := by
  unfold withByte
  split
  · cases h
  · rfl

theorem withColumn_badLength {act : Column → State → State × List Byte}
    (h : decide (body.length = 1) = false) : withColumn body act u = refuse .badLength u :=
  withByte_badLength h

theorem withTwoBytes_badLength {act : Byte → Byte → State → State × List Byte}
    (h : decide (body.length = 2) = false) : withTwoBytes body act u = refuse .badLength u := by
  unfold withTwoBytes
  split
  · cases h
  · rfl

theorem cardQuery_badLength (h : decide (body.length = 4) = false) :
    cardQuery body u = refuse .badLength u := by
  unfold cardQuery
  split
  · cases h
  · rfl

theorem timeSet_badLength (h : decide (body.length = 5) = false) :
    timeSet body u = refuse .badLength u := by
  unfold timeSet
  split
  · cases h
  · rfl

theorem cardModify_badLength (h : decide (body.length = 6) = false) :
    cardModify body u = refuse .badLength u := by
  unfold cardModify
  split
  · cases h
  · rfl

theorem profileWrite_badLength
    (h : (decide (3 ≤ body.length) && decide (body.length ≤ 239)) = false) :
    profileWrite body u = refuse .badLength u := by
  have hlength : body.length < 3 ∨ 239 < body.length := by
    rw [← Bool.decide_and, decide_eq_false_iff_not] at h
    omega
  exact if_pos hlength

theorem tableData_badLength {more : Bool} (h : dataLengthGood more body.length = false) :
    tableData more body u = refuse .badLength u := by
  simp [tableData, h]

theorem roundOpen_badLength
    (h : (decide (7 ≤ body.length) && decide (body.length = 7 + (body.getD 6 0).toNat)) = false) :
    roundOpen body u = refuse .badLength u := by
  unfold roundOpen
  split
  · rename_i n cs
    rw [← Bool.decide_and, decide_eq_false_iff_not] at h
    refine if_pos fun hcount => h ?_
    simp only [List.length_cons, hcount, List.getD_cons_succ, List.getD_cons_zero]
    omega
  · rfl

end

/-- A request of a length that its kind does not allow is answered BAD LENGTH. -/
theorem lengthNotAllowed_answered {s : State} (hs : s.chosen) (hi : s.host.inHand = none)
    {c : Instr} {k : Byte} {body : List Byte} (hc : c.request = some (k, body))
    (hl : c.lengthAllowed = false) : exec c s = .next (s.answered (k + 0x80) [0x03]) := by
  cases c with
  | identify | status | restart | tableRelease | roundKeep | roundClose | roundRead =>
    cases hc
    exact badLength_answered hs hi (withNoBody_badLength hl)
  | profileRead | alertFetch | alertFloor =>
    cases hc
    exact badLength_answered hs hi (withByte_badLength hl)
  | columnRead | columnService | columnWithdraw | columnMeasure | roundClaim | roundSkip =>
    cases hc
    exact badLength_answered hs hi (withColumn_badLength hl)
  | periodSet | tableWrite | tableVerify | tableErase | tableSum | tablePin | journalRead
  | journalRelease =>
    cases hc
    exact badLength_answered hs hi (withTwoBytes_badLength hl)
  | cardQuery => cases hc; exact badLength_answered hs hi (cardQuery_badLength hl)
  | timeSet => cases hc; exact badLength_answered hs hi (timeSet_badLength hl)
  | cardModify => cases hc; exact badLength_answered hs hi (cardModify_badLength hl)
  | profileWrite => cases hc; exact badLength_answered hs hi (profileWrite_badLength hl)
  | tableData => cases hc; exact badLength_answered hs hi (tableData_badLength hl)
  | roundOpen => cases hc; exact badLength_answered hs hi (roundOpen_badLength hl)
  | _ => cases hc

/-- Settles O6. -/
theorem badFramesAnswered : Obligations.BadFramesAnswered := fun _ hs hi =>
  ⟨checkError_answered hs hi, unknownKind_answered hs hi, fun _ _ _ =>
    lengthNotAllowed_answered hs hi⟩

/-! ### The reads (R131, R168, R169, R172) -/

section
variable (s : State)

theorem profileRead_reads (sel : Byte) : profileRead [sel] s = (s,
    if sel = 0xFF then 0x00 :: s.profile.globalItems.flatMap (settingBytes 0xFF)
    else if h : sel.toNat < 12 then
      0x00 :: (s.profile.columns[sel.toNat]'h).items.flatMap (settingBytes sel)
    else [0x04]) := by
  show (if sel = 0xFF then _ else _) = _
  by_cases hglobal : sel = 0xFF
  · rw [if_pos hglobal, if_pos hglobal]
    rfl
  · rw [if_neg hglobal, if_neg hglobal]
    by_cases hcolumn : sel.toNat < 12
    · rw [columnOf, dif_pos hcolumn, dif_pos hcolumn]
      rfl
    · rw [columnOf, dif_neg hcolumn, dif_neg hcolumn]
      rfl

theorem columnRead_reads {n : Byte} (h : n.toNat < 12) :
    columnRead [n] s = (s, 0x00 :: columnFields s ⟨n.toNat, h⟩) := by
  show (match columnOf n with | none => _ | some c => _) = _
  rw [columnOf, dif_pos h]
  rfl

/-- The layout of COLUMN READ, its last distance byte for byte (R169, R175). -/
theorem columnFields_layout (c : Column) : columnFields s c =
    [byte s.sups[c].condition.code, byte (reasonCode s.sups[c].reason), byte s.sups[c].latch.code,
      flag s.sups[c].hatchOpen, flag (!s.sups[c].lift.level), byte s.access[c].state.code,
      byte (stageCode (s.round.stageOf c)), byte s.fills[c].estimate, byte s.fills[c].band.code,
      byte s.fills[c].since, flag s.fills[c].doubtful] ++
      (match s.ranging.heads[c].last with
        | none => ([0, 0, 0, 0, 0, 0, 0, 0] : List Byte)
        | some l =>
          ([1] : List Byte) ++ bytes 2 l.mm ++ bytes 2 l.time.day.toNat ++ bytes 3 l.time.second) ++
      [byte s.ranging.heads[c].failures, byte s.ranging.heads[c].skip] ++
      bytes 2 s.access[c].insertions.toNat ++ bytes 2 s.access[c].denials := by
  simp only [columnFields]
  cases s.ranging.heads[c].last <;> rfl

theorem columnRead_badColumn {n : Byte} (h : ¬n.toNat < 12) : columnRead [n] s = (s, [0x04]) := by
  show (match columnOf n with | none => _ | some c => _) = _
  rw [columnOf, dif_neg h]
  rfl

end

/-- A manifest entry in ROUND READ: a fill of one byte each (R175). -/
theorem manifestEntry_layout (e : ManifestEntry) : e.bytes =
    [byte e.column.val, byte e.status.code, byte (outcomeCode e.outcome), byte (failCode e.failReason),
      byte (bit 0 e.fillBefore.isSome + bit 1 e.fillAfter.isSome + bit 2 e.residue),
      byte (e.fillBefore.getD 0), byte (e.fillAfter.getD 0)] := by
  simp [ManifestEntry.bytes, Machine.optional, bytes]

theorem flag_counting (r : Round) : flag r.counting =
    match r.supervision with
    | .counting _ => 1
    | .held _ => 0 := by
  unfold Round.counting
  cases r.supervision <;> rfl

/-- Settles O8: the reads hand out the state as it stands, in the layouts of R175. -/
theorem readsChangeNothing : Obligations.ReadsChangeNothing := by
  intro s hs hi
  refine ⟨?_, ?_, fun sel => ?_, fun n => ?_, ?_⟩
  · exact served_unchanged hs hi (by decide) rfl
  · exact served_unchanged hs hi (by decide) rfl
  · exact served_unchanged hs hi (by decide) (profileRead_reads (hostFrameEnds s) sel)
  · by_cases hn : n.toNat < 12
    · rw [dif_pos hn]
      refine served_unchanged hs hi (by decide) ((columnRead_reads (hostFrameEnds s) hn).trans ?_)
      rw [columnFields_layout]
      rfl
    · rw [dif_neg hn]
      exact served_unchanged hs hi (by decide) (columnRead_badColumn (hostFrameEnds s) hn)
  · refine served_unchanged hs hi (by decide) (congrArg (Prod.mk (hostFrameEnds s)) ?_)
    show 0x00 :: roundFields s = _
    rw [roundFields, funext manifestEntry_layout, flag_counting]
    rfl

end Sys2Proof.Proofs.PartRequests
end

section
/-! Proofs, Restarts: RESTART answered, and the soft restart taken whole or block by block (R18, R83, R84, R108, R132, R158, R173; log 7, 9). -/

namespace Sys2Proof.Proofs.PartRequests

open Sys2Proof Sys2Proof.Machine
open Sys2Proof.Proofs.CardTables (served present_restarting)
open Sys2Proof.Proofs.EmptyingRounds (withdrawPermit_permit)
open Sys2Proof.Proofs.Profiles (foldl_keeps)

/-! ### Every column in turn -/

/-- What a column's turn brings about and no turn undoes holds of every column that has had its turn. -/
theorem foldl_settles {P : State → Column → Prop} {f : State → Column → State}
    (own : ∀ s c, P (f s c) c) (kept : ∀ s c k, P s k → P (f s c) k) (l : List Column) (s : State)
    {k : Column} (h : k ∈ l ∨ P s k) : P (l.foldl f s) k := by
  induction l generalizing s with
  | nil => exact h.resolve_left nofun
  | cons c l ih =>
    refine ih (f s c) ?_
    rcases h with hmem | hs
    · rcases List.mem_cons.mp hmem with rfl | hmem
      · exact .inr (own s k)
      · exact .inl hmem
    · exact .inr (kept s c k hs)

theorem mem_allColumns (c : Column) : c ∈ allColumns := by revert c; decide

section
variable (s : State) (c : Column)

/-! ### The column supervisors' event (R18) -/

theorem restartSupervisor_frame :
    (restartSupervisor s c).access = s.access ∧ (restartSupervisor s c).round = s.round ∧
      (restartSupervisor s c).journal = s.journal ∧ (restartSupervisor s c).table = s.table ∧
      (restartSupervisor s c).alerts = s.alerts ∧ (restartSupervisor s c).reader = s.reader ∧
      (restartSupervisor s c).host = s.host := by
  simp only [restartSupervisor]
  split <;> simp

theorem restartSupervisors_frame :
    (restartSupervisors s).access = s.access ∧ (restartSupervisors s).round = s.round ∧
      (restartSupervisors s).journal = s.journal ∧ (restartSupervisors s).table = s.table ∧
      (restartSupervisors s).alerts = s.alerts ∧ (restartSupervisors s).reader = s.reader ∧
      (restartSupervisors s).host = s.host := by
  simpa [restartSupervisors] using foldl_keeps
    (fun s => (s.access, s.round, s.journal, s.table, s.alerts, s.reader, s.host))
    (fun s c => by simpa using restartSupervisor_frame s c) allColumns s

/-- A home request is the latch's. -/
theorem homeRequest_permit (k : Column) : (homeRequest c s).sups[k].permit = s.sups[k].permit := by
  by_cases h : k = c
  · subst h
    unfold homeRequest
    split <;> simp [startTravel]
  · exact congrArg Supervisor.permit (homeRequest_other s c h)

/-- A column's permit is withdrawn at its turn. -/
theorem restartSupervisor_permit : (restartSupervisor s c).sups[c].permit = false := by
  simp only [restartSupervisor]
  split
  · exact withdrawPermit_permit s c
  · exact (homeRequest_permit _ c c).trans (withdrawPermit_permit s c)

theorem restartSupervisor_other {k : Column} (h : k ≠ c) :
    (restartSupervisor s c).sups[k] = s.sups[k] := by
  simp only [restartSupervisor]
  split
  · exact withdrawPermit_other s c h
  · exact (homeRequest_other _ c h).trans (withdrawPermit_other s c h)

theorem restartSupervisors_permit : (restartSupervisors s).sups[c].permit = false :=
  foldl_settles (P := fun s c => s.sups[c].permit = false) restartSupervisor_permit
    (fun s c k hk => by
      by_cases hkc : k = c
      · exact hkc ▸ restartSupervisor_permit s k
      · exact (congrArg Supervisor.permit (restartSupervisor_other s c hkc)).trans hk)
    allColumns s (.inl (mem_allColumns c))

/-! ### The access controller's event (R83, R84) -/

theorem settleGrant_frame :
    (settleGrant s c).sups = s.sups ∧ (settleGrant s c).round = s.round ∧
      (settleGrant s c).reader = s.reader ∧ (settleGrant s c).host = s.host := by
  unfold settleGrant
  split
  · simp
  · split <;> simp

theorem restartAccess_frame :
    (restartAccess s c).sups = s.sups ∧ (restartAccess s c).round = s.round ∧
      (restartAccess s c).reader = s.reader ∧ (restartAccess s c).host = s.host := by
  simp only [restartAccess]
  split <;> simp

theorem restartMachines_frame :
    (restartMachines s).sups = s.sups ∧ (restartMachines s).round = s.round ∧
      (restartMachines s).reader = s.reader ∧ (restartMachines s).host = s.host := by
  have settled := foldl_keeps (fun s => (s.sups, s.round, s.reader, s.host))
    (fun s c => by simpa using settleGrant_frame s c) allColumns s
  have set := foldl_keeps (fun s => (s.sups, s.round, s.reader, s.host))
    (fun s c => by simpa using restartAccess_frame s c) allColumns (allColumns.foldl settleGrant s)
  simpa [restartMachines] using set.trans settled

/-- A machine set by its filtered hatch holds no context and no drain mark. -/
theorem accessRestart_clear (due : Nat) (hatchOpen : Bool) (latch : LatchState) (a : Access) :
    (a.restart due hatchOpen latch).context = none ∧
      (a.restart due hatchOpen latch).drainMark = false := by
  unfold Access.restart
  split <;> exact ⟨rfl, rfl⟩

theorem restartAccess_clear :
    (restartAccess s c).access[c].context = none ∧ (restartAccess s c).access[c].drainMark = false := by
  simp only [restartAccess]
  split
  · simp
  · simpa using accessRestart_clear ..

theorem restartAccess_other {k : Column} (h : k ≠ c) :
    (restartAccess s c).access[k] = s.access[k] := by
  simp only [restartAccess]
  split
  · exact State.modAccess_other s c _ h
  · simpa using State.modAccess_other s c _ h

theorem restartMachines_clear :
    (restartMachines s).access[c].context = none ∧
      (restartMachines s).access[c].drainMark = false :=
  foldl_settles (P := fun s c => s.access[c].context = none ∧ s.access[c].drainMark = false)
    restartAccess_clear
    (fun s c k hk => by
      by_cases hkc : k = c
      · exact hkc ▸ restartAccess_clear s k
      · rwa [restartAccess_other s c hkc])
    allColumns _ (.inl (mem_allColumns c))

/-! ### The round controller's event (R132) -/

theorem restartRound_frame :
    (restartRound s).access = s.access ∧ (restartRound s).reader = s.reader ∧
      (restartRound s).host = s.host := by
  unfold restartRound
  split <;> simp

theorem restartRound_aborts (h : s.round.state = .open) :
    (restartRound s).round.state = .aborted := by
  rw [restartRound, if_pos h]
  simp [leaveOpen]

theorem restartRound_closed (h : s.round.state ≠ .open) : restartRound s = s := if_neg h

/-! ### The request in hand (R173) -/

/-- No block lets the request in hand go. -/
theorem restartBlock_inHand {block : State → State} (hb : block ∈ restartBlocks) (s : State) :
    (block s).host.inHand = s.host.inHand := by
  simp only [restartBlocks, List.mem_cons, List.not_mem_nil, or_false] at hb
  rcases hb with rfl | rfl | rfl | rfl | rfl | rfl | rfl
  · obtain ⟨-, -, -, -, -, -, hhost⟩ := restartSupervisors_frame s
    exact congrArg HostLink.inHand hhost
  · obtain ⟨-, -, -, hhost⟩ := restartMachines_frame s
    exact congrArg HostLink.inHand hhost
  · rfl
  · obtain ⟨-, -, hhost⟩ := restartRound_frame s
    exact congrArg HostLink.inHand hhost
  all_goals rfl

theorem endRestart_inHand : (endRestart s).host.inHand = s.host.inHand.bind freeRestart := rfl

/-- The whole restart lets a RESTART in hand go. -/
theorem softRestart_inHand : (softRestart s).host.inHand = s.host.inHand.bind freeRestart := by
  have blocks (l : List (State → State)) (hl : ∀ block ∈ l, block ∈ restartBlocks) (u : State) :
      (l.foldl (fun u block => block u) u).host.inHand = u.host.inHand := by
    induction l generalizing u with
    | nil => rfl
    | cons block l ih =>
      exact (ih (fun b hb => hl b (List.mem_cons_of_mem _ hb)) (block u)).trans
        (restartBlock_inHand (hl block List.mem_cons_self) u)
  rw [softRestart, endRestart_inHand, blocks restartBlocks (fun _ hb => hb)]

/-- A RESTART is let go; the link, its transfer and its error count apart, is as before. -/
theorem endRestart_host {h : InHand} (hi : s.host.inHand = some h) (hr : h.restart = true) :
    (endRestart s).host = { s.host with inHand := none } := by
  simp [endRestart, hi, freeRestart, hr]

/-- The choice at the end of the restart's last event. -/
theorem chooseNext_ended :
    (chooseNext (endRestart s)).access = s.access ∧ (chooseNext (endRestart s)).round = s.round ∧
      (chooseNext (endRestart s)).alerts = s.alerts ∧
      (chooseNext (endRestart s)).host = (endRestart s).host ∧
      (chooseNext (endRestart s)).reader = s.reader ∧ (chooseNext (endRestart s)).restarted = 0 := by
  simp [endRestart]

end

/-! ### RESTART answered (R162, R173) -/

/-- The part with a RESTART in hand, whose reply has been sent or not. -/
def restartInHand (sent : Bool) (s : State) : State :=
  { s with
    host := { s.host with
      frame := none,
      inHand := some { reply := { kind := 0x83, body := [0x00] }, restart := true, sent := sent } } }

section
variable {s : State}

theorem restart_answered (hs : s.chosen) (hi : s.host.inHand = none) :
    exec (.restart []) s = .next (restartInHand false s) := served hs hi

/-- The end of its reply leaves a RESTART in hand. -/
theorem restart_replySent (hs : s.chosen) :
    exec .replySent (restartInHand false s) = .next (restartInHand true s) := by
  simp only [exec, execReplySent]
  rw [event_chosen _ (restartInHand false s) hs]
  rfl

/-- The soft restart is due from the end of the reply on. -/
theorem restart_due : .softRestart ∈ dueEvents (restartInHand true s) :=
  List.mem_append_right _ List.mem_cons_self

theorem restart_taken (hs : s.chosen) :
    ∃ w, exec .softRestart (restartInHand true s) = .next w ∧ w.host.inHand = none :=
  ⟨_, event_chosen _ (restartInHand true s) hs, softRestart_inHand _⟩

end

/-! ### Block by block (R173; log 7, 9) -/

section
variable {u : State} {block next : State → State} {rest : List (State → State)}

/-- A block that is not the last takes the restart, and the engine chooses. -/
theorem restartNext_block (h : restartBlocks.drop u.restarted = block :: next :: rest) :
    restartNext u = chooseNext { block u with restarted := u.restarted + 1 } := by
  rw [restartNext, h]

/-- The choice at the event's end is the ranging engine's: the rest is as the block leaves it. -/
theorem restartNext_frame (h : restartBlocks.drop u.restarted = block :: next :: rest) :
    (restartNext u).sups = (block u).sups ∧ (restartNext u).access = (block u).access ∧
      (restartNext u).round = (block u).round ∧ (restartNext u).journal = (block u).journal ∧
      (restartNext u).table = (block u).table ∧ (restartNext u).alerts = (block u).alerts ∧
      (restartNext u).reader = (block u).reader ∧ (restartNext u).host = (block u).host := by
  rw [restartNext_block h]
  simp

/-- With the last block the restart ends. -/
theorem restartNext_last (h : u.restarted = 6) :
    restartNext u = chooseNext (endRestart (restartAlerts u)) := by
  rw [restartNext, h]
  rfl

/-- Before the last block the RESTART stays in hand. -/
theorem restartNext_stays (h : u.restarted < 6) :
    (restartNext u).host.inHand = u.host.inHand ∧ (restartNext u).restarted = u.restarted + 1 := by
  have hlength : (restartBlocks.drop u.restarted).length = 7 - u.restarted := List.length_drop
  rcases hdrop : restartBlocks.drop u.restarted with _ | ⟨block, _ | ⟨next, rest⟩⟩
  · simp only [hdrop, List.length_nil] at hlength
    omega
  · simp only [hdrop, List.length_cons, List.length_nil] at hlength
    omega
  · have hmem : block ∈ restartBlocks := List.mem_of_mem_drop (hdrop ▸ List.mem_cons_self)
    rw [restartNext_block hdrop]
    simpa using restartBlock_inHand hmem u

end

/-- Settles O11: the reply leaves the RESTART in hand, each block has its own event, and the last lets the
RESTART go. -/
theorem restartAnsweredThenTaken : Obligations.RestartAnsweredThenTaken := by
  refine ⟨fun s hs hi => ?_, fun u h hi hr hsent => ?_⟩
  · obtain ⟨w, hw, hfree⟩ := restart_taken hs
    exact ⟨_, _, w, restart_answered hs hi, rfl, restart_replySent hs, rfl, restart_due, hw, hfree⟩
  · have restarting : u.restarting = true := by simp [State.restarting, hi, hr, hsent]
    refine ⟨fun hu hq c card => present_restarting hu hq restarting, restartNext_stays,
      fun h0 => ?supervisors, fun h1 => ?machines, fun h2 => ?transfer, fun h3 => ?round,
      fun h4 => ?engine, fun h5 => ?reader, fun h6 => ?alerts⟩
    case supervisors =>
      obtain ⟨hsups, hnext⟩ := restartNext_frame (block := restartSupervisors) (by rw [h0]; rfl)
      obtain ⟨haccess, hround, hjournal, htable, halerts, hreader, -⟩ := restartSupervisors_frame u
      simp only [hsups, hnext]
      exact ⟨restartSupervisors_permit u, haccess, hround, hjournal, htable, halerts, hreader⟩
    case machines =>
      obtain ⟨hsups, haccess, hround, -, -, -, hreader, hhost⟩ :=
        restartNext_frame (block := restartMachines) (by rw [h1]; rfl)
      rw [hsups, haccess, hround, hreader, hhost]
      exact ⟨restartMachines_clear u, restartMachines_frame u⟩
    case transfer =>
      obtain ⟨-, haccess, hround, hjournal, htable, halerts, -, hhost⟩ :=
        restartNext_frame (block := closeTransfer) (by rw [h2]; rfl)
      exact ⟨hhost, htable, haccess, hround, hjournal, halerts⟩
    case round =>
      obtain ⟨-, haccess, hround, -, -, -, hreader, -⟩ :=
        restartNext_frame (block := restartRound) (by rw [h3]; rfl)
      obtain ⟨hkept, hline, -⟩ := restartRound_frame u
      refine ⟨fun hopen => ?_, fun hclosed => ?_, haccess.trans hkept, hreader.trans hline⟩
      · exact hround ▸ restartRound_aborts u hopen
      · rw [hround, restartRound_closed u hclosed]
    case engine =>
      refine ⟨u.ranging.restart, ?_, rfl, rfl, rfl, rfl, rfl, fun c => by simp [Ranging.restart]⟩
      rw [restartNext_block (block := restartEngine) (by rw [h4]; rfl), h4]
      rfl
    case reader =>
      obtain ⟨-, haccess, hround, -, -, halerts, hreader, -⟩ :=
        restartNext_frame (block := restartReader) (by rw [h5]; rfl)
      exact ⟨hreader, halerts, hround, haccess⟩
    case alerts =>
      rw [restartNext_last h6]
      obtain ⟨haccess, hround, halerts, hhost, hreader, hrestarted⟩ :=
        chooseNext_ended (restartAlerts u)
      exact ⟨halerts, hhost.trans (endRestart_host _ hi hr), hrestarted, hreader, hround, haccess⟩

end Sys2Proof.Proofs.PartRequests
end
